-- ==== Sys2Proof/Word.lean ====
section
/-! DEFINITION. The byte, the word, and the plain data in which sparse byte storage is held (rule R8: 8-bit data, 16-bit addresses). -/

namespace Sys2Proof

/-- A byte, the one width the bus moves (rules R9, R82). -/
abbrev Byte := BitVec 8

/-- A 16-bit value: an address, PC, SP or a register pair (rules R8, R9). -/
abbrev Word := BitVec 16

/-- Byte storage (work RAM, an image, ...) as its non-fill cells, offset first; the fill value, the canonical form and
the operations are in Machine/Memory.lean. -/
structure Memory where
  cells : List Host.Cell
  deriving DecidableEq, Repr

/-- What an unlisted offset reads as: 0x00, the default initial content of every memory (rules R8, R44). -/
def Memory.fill : Byte := 0x00

/-- Storage in which no cell is listed. -/
def Memory.empty : Memory := ⟨[]⟩

end Sys2Proof
end

