-- ==== Sys2Proof/Config.lean ====
section
/-! DEFINITION. What an implementation fixes: the parameters of rule R8 as plain data, and the free values. -/

namespace Sys2Proof

/-- The parameters of rule R8 that a step reads. They are plain data carried in State (log entry 1), so a claim over all
states is a claim for every cartridge, firmware and parameter value; no step changes them. -/
structure Params where
  /-- `ROM`, the cartridge image, by image offset. -/
  rom : Memory
  /-- `ROM_SIZE`: a multiple of 0x4000, at least 0x8000. -/
  romSize : Nat
  /-- `BOOT_ROM`, the 256-byte firmware image. -/
  bootRom : Memory
  /-- `CART_TYPE` (rule R352). -/
  cartType : Byte
  /-- `ROM_SIZE_CODE`: no rule reads it (rule R353). -/
  romSizeCode : Byte
  /-- `RAM_SIZE_CODE` (rule R353). -/
  ramSizeCode : Byte
  /-- `INT_DISPATCH_CYCLES`, 0 to 55. -/
  intDispatchCycles : Nat
  /-- `UNMAPPED_READ_VALUE`. -/
  unmappedReadValue : Byte
  /-- `LCD_DISABLE_GATES_FSM`. -/
  lcdDisableGatesFsm : Bool
  /-- `DMA_BUDGET_CYCLES`. -/
  dmaBudgetCycles : Nat
  deriving DecidableEq, Repr

/-- The parameters that only reset reads (rule R8): the initial contents of the memories. -/
structure InitImages where
  wram : Memory
  hram : Memory
  vram : Memory
  oam : Memory
  cartRam : Memory
  deriving DecidableEq, Repr

/-- Rule R8's defaults. It gives none for the images and header codes, which the host supplies: here a bare 32 KB
ROM-only image and a firmware with no byte listed, so no program (log entry 2, DESIGN CHOICE, unsafe). -/
def Params.default : Params where
  rom := Memory.empty
  romSize := 0x8000
  bootRom := Memory.empty
  cartType := 0x00
  romSizeCode := 0x00
  ramSizeCode := 0x00
  intDispatchCycles := 20
  unmappedReadValue := 0x00
  lcdDisableGatesFsm := true
  dmaBudgetCycles := 640

/-- Rule R8's default initial contents: all 0x00. -/
def InitImages.default : InitImages where
  wram := Memory.empty
  hram := Memory.empty
  vram := Memory.empty
  oam := Memory.empty
  cartRam := Memory.empty

/-- FREE VALUE. `draw byte` of rules R13 and R78: what the n-th read of an audio register returns (log entry 3). -/
opaque Config.audioByte : Nat → Byte

/-- FREE VALUE. The source a dispatch selects when its own push has withdrawn every pending request, so that rule R440's
"least k" does not exist (log entry 4). -/
opaque Config.withdrawnSource : Nat → Fin 5

end Sys2Proof
end

