-- ==== Sys2Proof/WellFormed.lean ====
section
/-! DEFINITION. Well-formedness: of an instruction, and of the parameters rule R8 admits. -/

namespace Sys2Proof

/-- Every immediate is a bit vector of exactly the width its encoding has (rule R109), and every register, bit index,
condition and target is in the constructor, so the type already admits encodable instructions only. -/
def Instr.wellFormed (_ : Instr) : Bool := true

/-- Offsets strictly rising from `lo` on, below `size`, and no cell holding what an unlisted offset reads as. -/
def cellsOk (size : Nat) : Nat → List Host.Cell → Bool
  | _, [] => true
  | lo, (k, v) :: rest => decide (lo ≤ k) && decide (k < size) && decide (v ≠ Memory.fill) && cellsOk size (k + 1) rest

/-- The canonical form of a memory of `size` bytes: equal contents are equal data. -/
def Memory.wf (size : Nat) (m : Memory) : Bool := cellsOk size 0 m.cells

/-- `ROM_SIZE` is a multiple of 0x4000 and at least 0x8000 (rule R8). -/
def Params.romSizeOk (p : Params) : Bool := p.romSize % 0x4000 == 0 && decide (0x8000 ≤ p.romSize)

/-- `BOOT_ROM` is exactly 256 bytes (rule R8): nothing is listed beyond them. -/
def Params.bootRomOk (p : Params) : Bool := p.bootRom.wf 0x100

/-- The bytes of `ROM` lie below `ROM_SIZE` (rule R8). -/
def Params.romOk (p : Params) : Bool := p.rom.wf p.romSize

/-- `INT_DISPATCH_CYCLES` is in 0 to 55 (rules R8, R317). -/
def Params.dispatchCostOk (p : Params) : Bool := decide (p.intDispatchCycles ≤ 55)

/-- The parameters for which rule R8 says a machine exists. -/
def Params.wellFormed (p : Params) : Bool :=
  p.romSizeOk && p.bootRomOk && p.romOk && p.dispatchCostOk

end Sys2Proof
end

