-- ==== Sys2Proof/Machine/State.lean ====
section
/-! DEFINITION. The state of the machine as plain data, the reasons a step can stop, and the state after reset. -/

namespace Sys2Proof.Machine

/-- Why the machine stops. -/
inductive Fault where
  /-- The one synchronous exception (rule R431), carrying the address the opcode byte was fetched from and the byte. The
  meaning of an unassigned opcode records it in `State.fault`; `step` answers it for a state that has it recorded, which
  has no further step (rule R30). Safe: the rule gives that state no successor. -/
  | invalidOpcode (pc : Word) (opcode : Byte)
  deriving DecidableEq, Repr

/-- Why an instruction has no meaning. -/
inductive Refusal where
  /-- An arm of exec that has no meaning yet. Safe: nothing is claimed of it. No arm uses it. -/
  | notModelled (mnemonic : String)
  deriving DecidableEq, Repr

/-- The answer of a meaning and of a step is Host.Outcome over State, Fault and Refusal; the CPU registers (rules R20 to R24). -/
structure Regs where
  a : Byte
  f : Byte
  b : Byte
  c : Byte
  d : Byte
  e : Byte
  h : Byte
  l : Byte
  sp : Word
  pc : Word
  deriving DecidableEq, Repr

/-- The display controller (rules R35 to R37): its twelve registers, hidden state, VRAM and OAM. The mode is
`stat[1:0]`. -/
structure Display where
  lcdc : Byte
  stat : Byte
  scy : Byte
  scx : Byte
  ly : Byte
  lyc : Byte
  dma : Byte
  bgp : Byte
  obp0 : Byte
  obp1 : Byte
  wy : Byte
  wx : Byte
  modeClock : Nat
  dmaPending : Bool
  dmaBudget : Nat
  vram : Memory
  oam : Memory
  deriving DecidableEq, Repr

/-- The timer (rule R38). -/
structure Timer where
  div : Byte
  tima : Byte
  tma : Byte
  tac : BitVec 3
  divClock : Nat
  timaClock : Nat
  deriving DecidableEq, Repr

/-- The joypad (rule R39): bit 1 of `select` is JOYP bit 5, bit 0 is JOYP bit 4; a 1 in a group is a pressed button. -/
structure Joypad where
  select : BitVec 2
  dir : BitVec 4
  act : BitVec 4
  deriving DecidableEq, Repr

/-- The registers of a type 1 bank controller (rule R365). -/
structure Mbc1 where
  romBank5 : BitVec 5
  upper2 : BitVec 2
  mode : BitVec 1
  ramEnabled : Bool
  deriving DecidableEq, Repr

/-- The registers of a type 2 bank controller (rule R370). -/
structure Mbc2 where
  romBank4 : BitVec 4
  ramEnabled : Bool
  deriving DecidableEq, Repr

/-- The five clock registers of a type 3 bank controller, `rtc[0]` to `rtc[4]` (rule R380). -/
structure Rtc where
  seconds : Byte
  minutes : Byte
  hours : Byte
  dayLow : Byte
  dayHigh : Byte
  deriving DecidableEq, Repr

/-- The registers of a type 3 bank controller (rule R375). -/
structure Mbc3 where
  romBank7 : BitVec 7
  ramRtcSelect : BitVec 4
  ramEnabled : Bool
  latchLast : Byte
  rtc : Rtc
  deriving DecidableEq, Repr

/-- The variant of the cartridge, fixed at load, with its registers (rule R40). -/
inductive Mbc where
  | romOnly
  | type1 (m : Mbc1)
  | type2 (m : Mbc2)
  | type3 (m : Mbc3)
  deriving DecidableEq, Repr

/-- The pressed buttons a host event reports (rule R418). -/
structure Buttons where
  dir : BitVec 4
  act : BitVec 4
  deriving DecidableEq, Repr

/-- The output events (rule R13). -/
inductive Event where
  | renderLine (ly : Byte)
  | presentFrame
  | audioWrite (addr : Word) (v : Byte)
  | audioTick (cycles : Nat)
  deriving DecidableEq, Repr

/-- Everything the spec gives the machine (rules R20 to R40, R13), the parameters of rule R8 as data (log entry 1), and two
fields of the model's own, `draws` (log entry 3) and `hostInputs` (log entry 5). -/
structure State where
  regs : Regs
  /-- `IME` -/
  ime : Bool
  halted : Bool
  /-- `boot_active` -/
  bootActive : Bool
  fault : Option Fault
  /-- cost of the step in progress -/
  cycles : Nat
  totalCycles : Nat
  /-- `IF` -/
  intFlag : Byte
  /-- `IE` -/
  intEnable : Byte
  wram : Memory
  hram : Memory
  display : Display
  timer : Timer
  joypad : Joypad
  mbc : Mbc
  cram : Memory
  /-- the output event list, oldest first -/
  events : List Event
  params : Params
  /-- the model's own: how many free values have been taken -/
  draws : Nat
  /-- the model's own: what the host delivers before each of the next steps, `none` for nothing -/
  hostInputs : List (Option Buttons)
  deriving DecidableEq, Repr

/-- The machine at power-on (rules R44, R46, R470) with the default parameters. -/
def State.reset : State where
  regs :=
    { a := 0x00, f := 0x00, b := 0x00, c := 0x00, d := 0x00, e := 0x00, h := 0x00, l := 0x00, sp := 0x0000, pc := 0x0000 }
  ime := false
  halted := false
  bootActive := true
  fault := none
  cycles := 0
  totalCycles := 0
  intFlag := 0x00
  intEnable := 0x00
  wram := Memory.empty
  hram := Memory.empty
  display :=
    { lcdc := 0x00, stat := 0x00, scy := 0x00, scx := 0x00, ly := 0x00, lyc := 0x00, dma := 0x00, bgp := 0x00, obp0 := 0x00,
      obp1 := 0x00, wy := 0x00, wx := 0x00, modeClock := 0, dmaPending := false, dmaBudget := 0, vram := Memory.empty,
      oam := Memory.empty }
  timer := { div := 0x00, tima := 0x00, tma := 0x00, tac := 0, divClock := 0, timaClock := 0 }
  joypad := { select := 0b11, dir := 0, act := 0 }
  mbc := .romOnly
  cram := Memory.empty
  events := []
  params := Params.default
  draws := 0
  hostInputs := []

end Sys2Proof.Machine
end

