-- ==== Sys2Proof/Machine/Memory.lean ====
section
/-! DEFINITION. Reading and writing sparse byte storage, keeping its canonical form (Memory.wf of WellFormed.lean). -/

namespace Sys2Proof

/-- The byte a sorted cell list holds at offset `a`. -/
def readCells (a : Nat) : List Host.Cell → Byte
  | [] => Memory.fill
  | (k, w) :: rest => if a = k then w else readCells a rest

/-- Put a cell before the first one of a greater offset. -/
def insertCell (a : Nat) (v : Byte) : List Host.Cell → List Host.Cell
  | [] => [(a, v)]
  | (k, w) :: rest => if a < k then (a, v) :: (k, w) :: rest else (k, w) :: insertCell a v rest

/-- The cells after storing `v` at offset `a`: sorted still, and no cell holds the fill value. -/
def writeCells (a : Nat) (v : Byte) (cells : List Host.Cell) : List Host.Cell :=
  let others := cells.filter fun c => c.1 != a
  if v = Memory.fill then others else insertCell a v others

/-- The byte at an offset. -/
def Memory.read (m : Memory) (a : Nat) : Byte := readCells a m.cells

/-- Store a byte at an offset. -/
def Memory.write (m : Memory) (a : Nat) (v : Byte) : Memory := ⟨writeCells a v m.cells⟩

/-- The low nibbles of every cell (rule R44: a type 2 cartridge keeps the low nibbles of `CART_RAM_INIT`). -/
def Memory.lowNibbles (m : Memory) : Memory :=
  ⟨(m.cells.map fun c => (c.1, c.2 &&& 0x0F)).filter fun c => c.2 != Memory.fill⟩

/-- Every cell holds a 4-bit value (the 512 cells of a type 2 cartridge, rule R370). -/
def Memory.nibblesOnly (m : Memory) : Bool := m.cells.all fun c => c.2 &&& 0xF0 == 0

end Sys2Proof
end

