-- ==== Sys2Proof/Machine/Cartridge.lean ====
section
/-! DEFINITION. The cartridge: variant selection, RAM size, the windows and the control writes (rules R350 to R394). -/

namespace Sys2Proof.Machine

/-- The four bank-controller variants (rule R40). -/
inductive Variant where
  | romOnly | type1 | type2 | type3
  deriving DecidableEq, Repr

/-- Selection by `CART_TYPE` (rule R352). -/
def variantOf (cartType : Byte) : Variant :=
  match cartType.toNat with
  | 0x01 => .type1
  | 0x02 => .type1
  | 0x03 => .type1
  | 0x05 => .type2
  | 0x06 => .type2
  | 0x0F => .type3
  | 0x10 => .type3
  | 0x11 => .type3
  | 0x12 => .type3
  | 0x13 => .type3
  | _ => .romOnly

/-- The variant a controller is of. -/
def Mbc.variant : Mbc → Variant
  | .romOnly => .romOnly
  | .type1 _ => .type1
  | .type2 _ => .type2
  | .type3 _ => .type3

/-- The controller of a variant at reset (rules R44, R354 (e)). -/
def Mbc.initial : Variant → Mbc
  | .romOnly => .romOnly
  | .type1 => .type1 { romBank5 := 1, upper2 := 0, mode := 0, ramEnabled := false }
  | .type2 => .type2 { romBank4 := 1, ramEnabled := false }
  | .type3 =>
    .type3
      { romBank7 := 1, ramRtcSelect := 0, ramEnabled := false, latchLast := 0x00,
        rtc := { seconds := 0x00, minutes := 0x00, hours := 0x00, dayLow := 0x00, dayHigh := 0x00 } }

/-- The table of rule R353. -/
def ramSizeOfCode (code : Byte) : Nat :=
  match code.toNat with
  | 0x01 => 2048
  | 0x02 => 8192
  | 0x03 => 32768
  | 0x04 => 131072
  | 0x05 => 65536
  | _ => 0

/-- `RAM_SIZE`, the cells of cartridge RAM: the table of rule R353 under the overrides of rule R352. -/
def ramSize (p : Params) : Nat :=
  match variantOf p.cartType with
  | .romOnly => 0
  | .type1 => if p.cartType = 0x01 then 0 else ramSizeOfCode p.ramSizeCode
  | .type2 => 512
  | .type3 => if p.cartType = 0x0F ∨ p.cartType = 0x11 then 0 else ramSizeOfCode p.ramSizeCode

/-- The ROM bank in the switchable window (rules R355, R369). -/
def Mbc.romBank : Mbc → Nat
  | .romOnly => 1
  | .type1 m => if m.mode = 0 then m.upper2.toNat * 0x20 + m.romBank5.toNat else m.romBank5.toNat
  | .type2 m => m.romBank4.toNat
  | .type3 m => m.romBank7.toNat

/-- The image offset `Cart.ReadROM(a)` reads, for `a` in 0x0000 to 0x7FFF (rule R355). -/
def romOffset (p : Params) (m : Mbc) (a : Nat) : Nat :=
  if a ≤ 0x3FFF then a else (m.romBank * 0x4000 + (a - 0x4000)) % p.romSize

/-- What an address of the RAM window reaches (rules R356, R357). -/
inductive RamTarget where
  /-- disabled or absent: reads 0xFF, a write is discarded -/
  | nothing
  /-- a byte of `CRAM` -/
  | cell (i : Nat)
  /-- a 4-bit cell of `CRAM` -/
  | nibble (i : Nat)
  /-- a clock register -/
  | clock (k : Nat)
  deriving DecidableEq, Repr

/-- A byte of banked cartridge RAM, if there is any (rule R356). -/
def bankedCell (size bank a : Nat) : RamTarget :=
  if size = 0 then .nothing else .cell ((bank * 0x2000 + (a - 0xA000)) % size)

/-- The target of an address `a` in 0xA000 to 0xBFFF (rules R356, R357). -/
def ramTarget (p : Params) (m : Mbc) (a : Nat) : RamTarget :=
  match m with
  | .romOnly => .nothing
  | .type1 r =>
    if r.ramEnabled then bankedCell (ramSize p) (if r.mode = 1 then r.upper2.toNat else 0) a else .nothing
  | .type2 r => if r.ramEnabled then .nibble ((a - 0xA000) % 0x200) else .nothing
  | .type3 r =>
    if r.ramEnabled then
      if r.ramRtcSelect.toNat ≤ 0x03 then bankedCell (ramSize p) r.ramRtcSelect.toNat a
      else if 0x08 ≤ r.ramRtcSelect.toNat ∧ r.ramRtcSelect.toNat ≤ 0x0C then .clock (r.ramRtcSelect.toNat - 0x08)
      else .nothing
    else .nothing

/-- `rtc[k]` (rule R380). -/
def Rtc.get (r : Rtc) (k : Nat) : Byte :=
  match k with
  | 0 => r.seconds
  | 1 => r.minutes
  | 2 => r.hours
  | 3 => r.dayLow
  | _ => r.dayHigh

/-- `rtc[k] <- v` (rule R380). -/
def Rtc.set (r : Rtc) (k : Nat) (v : Byte) : Rtc :=
  match k with
  | 0 => { r with seconds := v }
  | 1 => { r with minutes := v }
  | 2 => { r with hours := v }
  | 3 => { r with dayLow := v }
  | _ => { r with dayHigh := v }

/-- `rtc[k]` of a controller that has clock registers. -/
def Mbc.clock (m : Mbc) (k : Nat) : Byte :=
  match m with
  | .type3 r => r.rtc.get k
  | _ => 0xFF

/-- `rtc[k] <- v` in a controller that has clock registers. -/
def Mbc.setClock (m : Mbc) (k : Nat) (v : Byte) : Mbc :=
  match m with
  | .type3 r => .type3 { r with rtc := r.rtc.set k v }
  | other => other

/-- Rule R354 (b): the enable code is a low nibble of 0xA. -/
def enables (v : Byte) : Bool := v &&& 0x0F == 0x0A

/-- Rule R354 (a): a ROM bank selector of 0 is coerced to 1. -/
def coerceBank {w : Nat} (b : BitVec w) : BitVec w := if b = 0 then 1 else b

/-- A type 1 control write (rules R366 to R369). -/
def Mbc1.control (m : Mbc1) (a : Nat) (v : Byte) : Mbc1 :=
  if a ≤ 0x1FFF then { m with ramEnabled := enables v }
  else if a ≤ 0x3FFF then { m with romBank5 := coerceBank (v.extractLsb' 0 5) }
  else if a ≤ 0x5FFF then { m with upper2 := v.extractLsb' 0 2 }
  else { m with mode := v.extractLsb' 0 1 }

/-- A type 2 control write: address bit 8 chooses the register (rules R370 to R372). -/
def Mbc2.control (m : Mbc2) (a : Nat) (v : Byte) : Mbc2 :=
  if a ≤ 0x3FFF then
    if a.testBit 8 then { m with romBank4 := coerceBank (v.extractLsb' 0 4) } else { m with ramEnabled := enables v }
  else m

/-- A type 3 control write (rules R376 to R379). -/
def Mbc3.control (m : Mbc3) (a : Nat) (v : Byte) : Mbc3 :=
  if a ≤ 0x1FFF then { m with ramEnabled := enables v }
  else if a ≤ 0x3FFF then { m with romBank7 := coerceBank (v.extractLsb' 0 7) }
  else if a ≤ 0x5FFF then { m with ramRtcSelect := v.extractLsb' 0 4 }
  else { m with latchLast := v }

/-- `Cart.WriteControl(a, v)`, `a` in 0x0000 to 0x7FFF (rule R385). -/
def Mbc.control (m : Mbc) (a : Nat) (v : Byte) : Mbc :=
  match m with
  | .romOnly => .romOnly
  | .type1 r => .type1 (r.control a v)
  | .type2 r => .type2 (r.control a v)
  | .type3 r => .type3 (r.control a v)

end Sys2Proof.Machine
end

