-- ==== Sys2Proof/Machine/DeviceRegs.lean ====
section
/-! DEFINITION. The registers of the joypad, the timer and the display as the bus reads and writes them. -/

namespace Sys2Proof.Machine

/-- `Joypad.Read()` (rule R416): active-low, both groups ANDed where both are selected. -/
def Joypad.read (j : Joypad) : Byte :=
  let dirs : BitVec 4 := if j.select.getLsbD 0 then 0xF else ~~~ j.dir
  let acts : BitVec 4 := if j.select.getLsbD 1 then 0xF else ~~~ j.act
  ((0b11 : BitVec 2) ++ j.select ++ (dirs &&& acts) : BitVec 8)

/-- `Joypad.Write(v)` (rule R417). -/
def Joypad.write (j : Joypad) (v : Byte) : Joypad := { j with select := v.extractLsb' 4 2 }

/-- The four timer registers (rule R38). -/
inductive TimerReg where
  | div | tima | tma | tac
  deriving DecidableEq, Repr

/-- `Timer.Read(a)` (rule R404). -/
def Timer.read (t : Timer) : TimerReg → Byte
  | .div => t.div
  | .tima => t.tima
  | .tma => t.tma
  | .tac => t.tac.setWidth 8

/-- `Timer.Write(a, v)` (rule R404). -/
def Timer.write (t : Timer) (r : TimerReg) (v : Byte) : Timer :=
  match r with
  | .div => { t with div := 0x00, divClock := 0 }
  | .tima => { t with tima := v }
  | .tma => { t with tma := v }
  | .tac => { t with tac := v.extractLsb' 0 3 }

/-- The twelve display registers (rule R35). -/
inductive DisplayReg where
  | lcdc | stat | scy | scx | ly | lyc | dma | bgp | obp0 | obp1 | wy | wx
  deriving DecidableEq, Repr

/-- `Display.ReadReg(a)` (rule R309). -/
def Display.readReg (d : Display) : DisplayReg → Byte
  | .lcdc => d.lcdc
  | .stat => d.stat
  | .scy => d.scy
  | .scx => d.scx
  | .ly => d.ly
  | .lyc => d.lyc
  | .dma => d.dma
  | .bgp => d.bgp
  | .obp0 => d.obp0
  | .obp1 => d.obp1
  | .wy => d.wy
  | .wx => d.wx

/-- `Display.WriteReg(a, v)` (rule R309). -/
def Display.writeReg (d : Display) (r : DisplayReg) (v : Byte) : Display :=
  match r with
  | .lcdc => { d with lcdc := v }
  | .stat => { d with stat := (d.stat &&& 0x07) ||| (v &&& 0x78) }
  | .scy => { d with scy := v }
  | .scx => { d with scx := v }
  | .ly => d
  | .lyc => { d with lyc := v }
  | .dma => { d with dma := v, dmaPending := true }
  | .bgp => { d with bgp := v }
  | .obp0 => { d with obp0 := v }
  | .obp1 => { d with obp1 := v }
  | .wy => { d with wy := v }
  | .wx => { d with wx := v }

/-- The mode, `STAT[1:0]` (rule R302). -/
def Display.mode (d : Display) : BitVec 2 := d.stat.extractLsb' 0 2

/-- `STAT[1:0] <- m`. -/
def Display.setMode (d : Display) (m : BitVec 2) : Display := { d with stat := (d.stat &&& 0xFC) ||| m.setWidth 8 }

/-- `STAT[2] <- b`, the coincidence status (rule R316). -/
def Display.setCoincidence (d : Display) (b : Bool) : Display :=
  { d with stat := if b then d.stat ||| 0x04 else d.stat &&& 0xFB }

end Sys2Proof.Machine
end

