-- ==== Sys2Proof/Machine/Ops.lean ====
section
/-! DEFINITION. The named operations over the state: the bus and its decoder, the CPU read path, fetching, the stack,
requests and their dispatch, the invalid-opcode fault, the return from an interrupt, and cycle accounting. -/

namespace Sys2Proof.Machine

/-- What a meaning and a step answer. -/
abbrev Result := Host.Outcome State Fault Refusal

/-- Charge `n` cycles to the step in progress (rule R12). -/
def State.addCycles (s : State) (n : Nat) : State := { s with cycles := s.cycles + n }

/-- `emit E` (rule R13). -/
def State.emit (s : State) (e : Event) : State := { s with events := s.events ++ [e] }

/-- `PC <- a`. -/
def State.setPC (s : State) (a : Word) : State := { s with regs := { s.regs with pc := a } }

/-- `SP <- a`. -/
def State.setSP (s : State) (a : Word) : State := { s with regs := { s.regs with sp := a } }

/-! The bus (rules R60 to R90). -/

/-- The owner of an address, with the offset or register inside it (rule R61). -/
inductive Region where
  /-- 0x0000 to 0x7FFF, cartridge -/
  | rom
  /-- 0x8000 to 0x9FFF -/
  | vram (off : Nat)
  /-- 0xA000 to 0xBFFF, cartridge -/
  | cartRam
  /-- 0xC000 to 0xDFFF and its echo 0xE000 to 0xFDFF -/
  | wram (off : Nat)
  /-- 0xFE00 to 0xFE9F -/
  | oam (off : Nat)
  /-- 0xFF00 -/
  | joypad
  /-- 0xFF04 to 0xFF07 -/
  | timer (r : TimerReg)
  /-- 0xFF0F -/
  | intFlag
  /-- 0xFF10 to 0xFF3F -/
  | audio
  /-- 0xFF40 to 0xFF4B -/
  | display (r : DisplayReg)
  /-- 0xFF50 -/
  | bootLock
  /-- 0xFF80 to 0xFFFE -/
  | hram (off : Nat)
  /-- 0xFFFF -/
  | intEnable
  /-- every other address -/
  | unmapped
  deriving DecidableEq, Repr

/-- The owner of an address in the register page 0xFF00 to 0xFF7F (rules R41, R61). -/
def ioRegion (a : Nat) : Region :=
  if a = 0xFF00 then .joypad
  else if a = 0xFF04 then .timer .div
  else if a = 0xFF05 then .timer .tima
  else if a = 0xFF06 then .timer .tma
  else if a = 0xFF07 then .timer .tac
  else if a = 0xFF0F then .intFlag
  else if 0xFF10 ≤ a ∧ a ≤ 0xFF3F then .audio
  else if a = 0xFF40 then .display .lcdc
  else if a = 0xFF41 then .display .stat
  else if a = 0xFF42 then .display .scy
  else if a = 0xFF43 then .display .scx
  else if a = 0xFF44 then .display .ly
  else if a = 0xFF45 then .display .lyc
  else if a = 0xFF46 then .display .dma
  else if a = 0xFF47 then .display .bgp
  else if a = 0xFF48 then .display .obp0
  else if a = 0xFF49 then .display .obp1
  else if a = 0xFF4A then .display .wy
  else if a = 0xFF4B then .display .wx
  else if a = 0xFF50 then .bootLock
  else .unmapped

/-- The decoder (rule R61). -/
def region (addr : Word) : Region :=
  let a := addr.toNat
  if a ≤ 0x7FFF then .rom
  else if a ≤ 0x9FFF then .vram (a - 0x8000)
  else if a ≤ 0xBFFF then .cartRam
  else if a ≤ 0xDFFF then .wram (a - 0xC000)
  else if a ≤ 0xFDFF then .wram (a - 0xE000)
  else if a ≤ 0xFE9F then .oam (a - 0xFE00)
  else if a ≤ 0xFEFF then .unmapped
  else if a ≤ 0xFF7F then ioRegion a
  else if a ≤ 0xFFFE then .hram (a - 0xFF80)
  else .intEnable

/-- `Cart.ReadRAM(a)` (rule R356). -/
def State.readCartRam (s : State) (a : Word) : Byte :=
  match ramTarget s.params s.mbc a.toNat with
  | .nothing => 0xFF
  | .cell i => s.cram.read i
  | .nibble i => 0xF0 ||| s.cram.read i
  | .clock k => s.mbc.clock k

/-- `Cart.WriteRAM(a, v)` (rule R357). -/
def State.writeCartRam (s : State) (a : Word) (v : Byte) : State :=
  match ramTarget s.params s.mbc a.toNat with
  | .nothing => s
  | .cell i => { s with cram := s.cram.write i v }
  | .nibble i => { s with cram := s.cram.write i (v &&& 0x0F) }
  | .clock k => { s with mbc := s.mbc.setClock k v }

/-- The byte `BusRead(a)` returns (rule R62); a read of the audio range takes the next free value (rule R78). -/
def State.busRead (s : State) (a : Word) : Byte :=
  match region a with
  | .rom => s.params.rom.read (romOffset s.params s.mbc a.toNat)
  | .vram off => s.display.vram.read off
  | .cartRam => s.readCartRam a
  | .wram off => s.wram.read off
  | .oam off => s.display.oam.read off
  | .joypad => s.joypad.read
  | .timer r => s.timer.read r
  | .intFlag => s.intFlag
  | .audio => Config.audioByte s.draws
  | .display r => s.display.readReg r
  | .bootLock => s.params.unmappedReadValue
  | .hram off => s.hram.read off
  | .intEnable => s.intEnable
  | .unmapped => s.params.unmappedReadValue

/-- The state after a read of `a`: only a read of the audio range leaves a trace, the next free value (rules R78, R83). -/
def State.afterRead (s : State) (a : Word) : State :=
  match region a with
  | .audio => { s with draws := s.draws + 1 }
  | _ => s

/-- `BusWrite(a, v)` (rule R63). -/
def State.busWrite (s : State) (a : Word) (v : Byte) : State :=
  match region a with
  | .rom => { s with mbc := s.mbc.control a.toNat v }
  | .vram off => { s with display := { s.display with vram := s.display.vram.write off v } }
  | .cartRam => s.writeCartRam a v
  | .wram off => { s with wram := s.wram.write off v }
  | .oam off => { s with display := { s.display with oam := s.display.oam.write off v } }
  | .joypad => { s with joypad := s.joypad.write v }
  | .timer r => { s with timer := s.timer.write r v }
  | .intFlag => { s with intFlag := v }
  | .audio => s.emit (.audioWrite a v)
  | .display r => { s with display := s.display.writeReg r v }
  | .bootLock => if v.getLsbD 0 then { s with bootActive := false } else s
  | .hram off => { s with hram := s.hram.write off v }
  | .intEnable => { s with intEnable := v }
  | .unmapped => s

/-- `MemRead(a, 1)`, the CPU read path: the firmware overlay, else the bus (rule R66). -/
def State.memRead (s : State) (a : Word) : Byte :=
  if s.bootActive = true ∧ a.toNat ≤ 0x00FF then s.params.bootRom.read a.toNat else s.busRead a

/-- `MemWrite(a, 1, v)`: the overlay does not affect writes (rule R68). -/
def State.memWrite (s : State) (a : Word) (v : Byte) : State := s.busWrite a v

/-! Fetching (rules R11, R89, R102). -/

/-- `Fetch8()`. -/
def State.fetch8 (s : State) : Byte × State :=
  (s.memRead s.regs.pc, (s.afterRead s.regs.pc).setPC (s.regs.pc + 1))

/-- `Fetch16()`: low byte first. -/
def State.fetch16 (s : State) : Word × State :=
  let lo := s.fetch8
  let hi := lo.2.fetch8
  (joinBytes hi.1 lo.1, hi.2)

/-- Fetch the instruction at PC, operand bytes included, and leave PC after it (rules R23, R102). In every rule the fetches
precede the instruction's own accesses (rule R89). -/
def State.fetchInstr (s : State) : Instr × State :=
  let op := s.fetch8
  match primary op.1 with
  | .op i => (i, op.2)
  | .imm8 f => let n := op.2.fetch8; (f n.1, n.2)
  | .imm16 f => let n := op.2.fetch16; (f n.1, n.2)
  | .extended => let op2 := op.2.fetch8; (extended op2.1, op2.2)

/-! The stack (rule R154). -/

/-- `Push16(w)`: the high byte at SP - 1, then the low byte at SP - 2. -/
def State.push16 (s : State) (w : Word) : State :=
  let s1 := s.setSP (s.regs.sp - 1)
  let s2 := s1.memWrite s1.regs.sp (hiByte w)
  let s3 := s2.setSP (s2.regs.sp - 1)
  s3.memWrite s3.regs.sp (loByte w)

/-- `Pop16()`: the low byte at SP, then the high byte at SP + 1. -/
def State.pop16 (s : State) : Word × State :=
  let sp := s.regs.sp
  let lo := s.memRead sp
  let s1 := s.afterRead sp
  let hi := s1.memRead (sp + 1)
  (joinBytes hi lo, (s1.afterRead (sp + 1)).setSP (sp + 2))

/-! Interrupts (rules R435 to R444). -/

/-- `1 << k` as a byte. -/
def bitMask (k : Nat) : Byte := BitVec.ofNat 8 (2 ^ k)

/-- `RaiseIRQ(k)` (rule R436). -/
def State.raiseIRQ (s : State) (k : Nat) : State :=
  { s with intFlag := s.intFlag ||| bitMask k, halted := false }

/-- The least k in 0 to 4 with bit k set (rule R440: bit 0 has the highest priority). -/
def lowestSource (pending : Byte) : Option (Fin 5) :=
  if pending.getLsbD 0 then some 0
  else if pending.getLsbD 1 then some 1
  else if pending.getLsbD 2 then some 2
  else if pending.getLsbD 3 then some 3
  else if pending.getLsbD 4 then some 4
  else none

/-- The bits of `IE & IF & 0x1F` (rule R437). -/
def State.pending (s : State) : Byte := s.intEnable &&& s.intFlag &&& 0x1F

/-- The selected source, read after the push as rule R440 orders it; a push that has itself withdrawn every request leaves
no least k, and the choice is then a free value (log entry 4). -/
def State.selectSource (s : State) : Fin 5 × State :=
  match lowestSource s.pending with
  | some k => (k, s)
  | none => (Config.withdrawnSource s.draws, { s with draws := s.draws + 1 })

/-- Take source `k`: clear its request, go to its vector, charge the dispatch (rule R440). -/
def State.takeSource (s : State) (k : Fin 5) : State :=
  ({ s with intFlag := s.intFlag &&& ~~~ bitMask k.val }.setPC (BitVec.ofNat 16 (0x40 + 8 * k.val))).addCycles
    s.params.intDispatchCycles

/-- Entry into an interrupt: IME and `halted` cleared, PC pushed, a source selected and taken (rules R440, R441). -/
def State.enterInterrupt (s : State) : State :=
  let pushed := { s with ime := false, halted := false }.push16 s.regs.pc
  let sel := pushed.selectSource
  sel.2.takeSource sel.1

/-- `InterruptDispatch()` (rule R440). -/
def State.interruptDispatch (s : State) : State :=
  if s.ime = true ∧ s.pending ≠ 0 then s.enterInterrupt else s

/-- The return from an interrupt: `PC <- Pop16(); IME <- 1` (rules R264, R443). -/
def State.returnFromInterrupt (s : State) : State :=
  let r := s.pop16
  { r.2.setPC r.1 with ime := true }

/-- `raise InvalidOpcode(pc, opcode)` (rule R431), run with PC already past the one opcode byte: PC is put back on it, the
fault is recorded, and the step's cost is dropped (rule R432). -/
def State.raiseInvalidOpcode (s : State) (opcode : Byte) : State :=
  let pc := s.regs.pc - 1
  { s.setPC pc with fault := some (.invalidOpcode pc opcode), cycles := 0 }

end Sys2Proof.Machine
end

