-- ==== Sys2Proof/Machine/Operands.lean ====
section
/-! DEFINITION. Register and memory operands: the registers, the pair views, and every operand form (rules R20, R21, R104,
R105, R129). -/

namespace Sys2Proof.Machine

/-! The 8-bit registers (rule R10). -/

/-- `x[i]`. -/
def Regs.get (r : Regs) : R8 → Byte
  | .b => r.b
  | .c => r.c
  | .d => r.d
  | .e => r.e
  | .h => r.h
  | .l => r.l
  | .a => r.a

/-- `x[i] <- v`. -/
def Regs.set (r : Regs) (i : R8) (v : Byte) : Regs :=
  match i with
  | .b => { r with b := v }
  | .c => { r with c := v }
  | .d => { r with d := v }
  | .e => { r with e := v }
  | .h => { r with h := v }
  | .l => { r with l := v }
  | .a => { r with a := v }

/-! The pair views (rule R21). -/

def Regs.af (r : Regs) : Word := joinBytes r.a r.f
def Regs.bc (r : Regs) : Word := joinBytes r.b r.c
def Regs.de (r : Regs) : Word := joinBytes r.d r.e
def Regs.hl (r : Regs) : Word := joinBytes r.h r.l

def Regs.setBC (r : Regs) (w : Word) : Regs := { r with b := hiByte w, c := loByte w }
def Regs.setDE (r : Regs) (w : Word) : Regs := { r with d := hiByte w, e := loByte w }
def Regs.setHL (r : Regs) (w : Word) : Regs := { r with h := hiByte w, l := loByte w }
/-- The low nibble of F stays zero (rules R21, R22). -/
def Regs.setAF (r : Regs) (w : Word) : Regs := { r with a := hiByte w, f := loByte w &&& 0xF0 }

/-- A pair of group 1 (rule R105). -/
def Regs.getPair (r : Regs) : R16 → Word
  | .bc => r.bc
  | .de => r.de
  | .hl => r.hl
  | .sp => r.sp

/-- Write a pair of group 1. -/
def Regs.setPair (r : Regs) (p : R16) (w : Word) : Regs :=
  match p with
  | .bc => r.setBC w
  | .de => r.setDE w
  | .hl => r.setHL w
  | .sp => { r with sp := w }

/-- A pair of group 2 (rule R105). -/
def Regs.getStackPair (r : Regs) : StackPair → Word
  | .bc => r.bc
  | .de => r.de
  | .hl => r.hl
  | .af => r.af

/-- Write a pair of group 2. -/
def Regs.setStackPair (r : Regs) (p : StackPair) (w : Word) : Regs :=
  match p with
  | .bc => r.setBC w
  | .de => r.setDE w
  | .hl => r.setHL w
  | .af => r.setAF w

/-- `x[i] <- v` in the state. -/
def State.setReg (s : State) (i : R8) (v : Byte) : State := { s with regs := s.regs.set i v }

/-- `HL <- w` in the state. -/
def State.setHL (s : State) (w : Word) : State := { s with regs := s.regs.setHL w }

/-- `F <- f` in the state. -/
def State.setF (s : State) (f : Byte) : State := { s with regs := { s.regs with f := f } }

/-! Source and read-write operands of an instruction. -/

/-- A source operand: a register, the byte at HL, or n8 (rules R104, R109). -/
inductive Source where
  | opnd (o : Opnd)
  | imm (n : Byte)
  deriving DecidableEq, Repr

/-- The value of a register or (HL) operand. -/
def State.readOpnd (s : State) : Opnd → Byte
  | .reg r => s.regs.get r
  | .atHL => s.memRead s.regs.hl

/-- The state after reading it. -/
def State.afterReadOpnd (s : State) : Opnd → State
  | .reg _ => s
  | .atHL => s.afterRead s.regs.hl

/-- Write a register or (HL) operand. -/
def State.writeOpnd (s : State) (o : Opnd) (v : Byte) : State :=
  match o with
  | .reg r => s.setReg r v
  | .atHL => s.memWrite s.regs.hl v

/-- The value of a source operand. -/
def State.readSource (s : State) : Source → Byte
  | .opnd o => s.readOpnd o
  | .imm n => n

/-- The state after reading it. -/
def State.afterReadSource (s : State) : Source → State
  | .opnd o => s.afterReadOpnd o
  | .imm _ => s

/-- 4 cycles for each data access an operand makes (rule R12). -/
def opndCost : Opnd → Nat
  | .reg _ => 0
  | .atHL => 4

/-- 4 cycles for the operand byte fetched or the data byte read (rule R12). -/
def sourceCost : Source → Nat
  | .opnd o => opndCost o
  | .imm _ => 4

/-- The address of an `LDH` operand: 0xFF00 + n (rules R109, R129). -/
def highPage (n : Byte) : Word := joinBytes 0xFF n

end Sys2Proof.Machine
end

