-- ==== Sys2Proof/Machine/Flags.lean ====
section
/-! DEFINITION. Every flag computation: the flag byte, the laws of rules R25, R170 and R209, and the results of the
accumulator operations, the rotates and shifts, and DAA. -/

namespace Sys2Proof.Machine

/-- The flag byte of four flags; its low nibble is zero (rules R22, R25). -/
def packFlags (z n h c : Bool) : Byte :=
  (if z then 0x80 else 0x00) ||| (if n then 0x40 else 0x00) ||| (if h then 0x20 else 0x00) ||| (if c then 0x10 else 0x00)

/-- `Z = F[7]`. -/
def flagZ (f : Byte) : Bool := f.getLsbD 7
/-- `N = F[6]`. -/
def flagN (f : Byte) : Bool := f.getLsbD 6
/-- `Hf = F[5]`. -/
def flagH (f : Byte) : Bool := f.getLsbD 5
/-- `Cf = F[4]`. -/
def flagC (f : Byte) : Bool := f.getLsbD 4

/-- `v & 0xF` as a number. -/
def lowNibble (v : Byte) : Nat := (v &&& 0x0F).toNat

/-- `Add8(a, b, ci)`: the result and the flag byte (rule R170). -/
def add8 (a b : Byte) (ci : Nat) : Byte × Byte :=
  let r := BitVec.ofNat 8 (a.toNat + b.toNat + ci)
  (r, packFlags (r == 0) false (decide (lowNibble a + lowNibble b + ci > 0xF)) (decide (a.toNat + b.toNat + ci > 0xFF)))

/-- `Sub8(a, b, ci)`: the result and the flag byte (rule R170). -/
def sub8 (a b : Byte) (ci : Nat) : Byte × Byte :=
  let r := a - b - BitVec.ofNat 8 ci
  (r, packFlags (r == 0) true (decide (lowNibble a < lowNibble b + ci)) (decide (a.toNat < b.toNat + ci)))

/-- `HalfCarry16(a, b)`, the carry out of bit 3 (rule R209). -/
def halfCarry16 (a b : Word) : Bool := decide ((a &&& 0x000F).toNat + (b &&& 0x000F).toNat > 0x000F)

/-- The flag byte of `ADD SP,e8` and `LD HL,SP+e8`: carries of the raw operand byte into the low byte of SP (rules R158,
R211). -/
def spOffsetFlags (sp : Word) (n : Byte) : Byte :=
  packFlags false false (decide ((sp &&& 0x000F).toNat + lowNibble n > 0x0F))
    (decide ((sp &&& 0x00FF).toNat + n.toNat > 0xFF))

/-- The carry flag as the number 0 or 1. -/
def carryIn (f : Byte) : Nat := (flagC f).toNat

/-- An accumulator operation: the new A and the new F from A, the operand and F (rules R171 to R194). -/
def aluApply (op : AluOp) (a v f : Byte) : Byte × Byte :=
  match op with
  | .add => add8 a v 0
  | .adc => add8 a v (carryIn f)
  | .sub => sub8 a v 0
  | .sbc => sub8 a v (carryIn f)
  | .and => let r := a &&& v; (r, packFlags (r == 0) false true false)
  | .xor => let r := a ^^^ v; (r, packFlags (r == 0) false false false)
  | .or => let r := a ||| v; (r, packFlags (r == 0) false false false)
  | .cp => (a, (sub8 a v 0).2)

/-- `INC`: the result and the flag byte, C unchanged (rule R195). -/
def inc8 (v f : Byte) : Byte × Byte :=
  let r := v + 1
  (r, packFlags (r == 0) false (v &&& 0x0F == 0x0F) (flagC f))

/-- `DEC`: the result and the flag byte, C unchanged (rule R197). -/
def dec8 (v f : Byte) : Byte × Byte :=
  let r := v - 1
  (r, packFlags (r == 0) true (v &&& 0x0F == 0x00) (flagC f))

/-- `DAA`: the new A and the new F (rule R199). -/
def daa8 (a f : Byte) : Byte × Byte :=
  let low : Bool := flagH f || (!flagN f && decide (lowNibble a > 0x09))
  let high : Bool := flagC f || (!flagN f && decide (a.toNat > 0x99))
  let corr : Byte := (if low then 0x06 else 0x00) ||| (if high then 0x60 else 0x00)
  let r := if flagN f then a - corr else a + corr
  (r, packFlags (r == 0) (flagN f) false (if high then true else flagC f))

/-- A rotate or shift: the result and the bit shifted out, from the operand and the carry (rules R224 to R239). -/
def rotApply (op : RotOp) (v : Byte) (cf : Bool) : Byte × Bool :=
  let carryLow : Byte := if cf then 0x01 else 0x00
  let carryHigh : Byte := if cf then 0x80 else 0x00
  match op with
  | .rlc => ((v <<< 1) ||| (if v.getLsbD 7 then 0x01 else 0x00), v.getLsbD 7)
  | .rrc => ((v >>> 1) ||| (if v.getLsbD 0 then 0x80 else 0x00), v.getLsbD 0)
  | .rl => ((v <<< 1) ||| carryLow, v.getLsbD 7)
  | .rr => ((v >>> 1) ||| carryHigh, v.getLsbD 0)
  | .sla => (v <<< 1, v.getLsbD 7)
  | .sra => ((v >>> 1) ||| (v &&& 0x80), v.getLsbD 0)
  | .swap => ((v <<< 4) ||| (v >>> 4), false)
  | .srl => (v >>> 1, v.getLsbD 0)

/-- `Cond(cc)` on the flag byte (rule R254). -/
def condHolds (cc : Cond) (f : Byte) : Bool :=
  match cc with
  | .nz => !flagZ f
  | .z => flagZ f
  | .nc => !flagC f
  | .c => flagC f

end Sys2Proof.Machine
end

