-- ==== Sys2Proof/Machine/Devices.lean ====
section
/-! DEFINITION. The update calls at the end of a step (display, timer, audio) and the host's input event (rules R310 to
R326, R405, R418, R422). -/

namespace Sys2Proof.Machine

/-! The OAM transfer (rule R320). -/

/-- One byte of the transfer: `OAM[i] <- BusRead((page << 8) + i)`, through the raw bus. -/
def State.dmaByte (s : State) (page : Byte) (i : Nat) : State :=
  let a := BitVec.ofNat 16 (page.toNat * 0x100 + i)
  let v := s.busRead a
  let s' := s.afterRead a
  { s' with display := { s'.display with oam := s'.display.oam.write i v } }

/-- The first `n` bytes of the transfer in ascending order. -/
def State.dmaBytes (page : Byte) : Nat → State → State
  | 0, s => s
  | n + 1, s => (State.dmaBytes page n s).dmaByte page n

/-- Part (1) of `Display.Update(c)` (rules R310, R320, R321). -/
def State.dmaPhase (s : State) (c : Nat) : State :=
  if s.display.dmaPending then
    let s' := State.dmaBytes s.display.dma 160 s
    { s' with display := { s'.display with dmaPending := false, dmaBudget := s'.params.dmaBudgetCycles } }
  else { s with display := { s.display with dmaBudget := s.display.dmaBudget - c } }

/-! The timing state machine (rules R310 to R318). -/

/-- `RaiseIRQ(1)` if the STAT source enable in bit `b` is set (rule R319). -/
def State.statRequest (s : State) (b : Nat) : State :=
  if s.display.stat.getLsbD b then s.raiseIRQ 1 else s

/-- `mode_clock <- mode_clock - n`. -/
def State.consumeModeClock (s : State) (n : Nat) : State :=
  { s with display := { s.display with modeClock := s.display.modeClock - n } }

/-- `STAT[1:0] <- m`. -/
def State.enterMode (s : State) (m : BitVec 2) : State := { s with display := s.display.setMode m }

/-- `LY <- v`. -/
def State.setLY (s : State) (v : Byte) : State := { s with display := { s.display with ly := v } }

/-- OAM-scan completion (rule R312). -/
def State.endOamScan (s : State) : State := (s.consumeModeClock 80).enterMode 3

/-- OAM+VRAM-scan completion (rule R313). -/
def State.endVramScan (s : State) : State :=
  (((s.consumeModeClock 172).emit (.renderLine s.display.ly)).enterMode 0).statRequest 3

/-- HBlank completion (rule R314). -/
def State.endHBlank (s : State) : State :=
  let s' := (s.consumeModeClock 204).setLY (s.display.ly + 1)
  if s'.display.ly = 144 then (((s'.enterMode 1).raiseIRQ 0).emit .presentFrame).statRequest 4
  else (s'.enterMode 2).statRequest 5

/-- The end of a VBlank line, and VBlank completion on the last (rule R315). -/
def State.endVBlankLine (s : State) : State :=
  let s' := (s.consumeModeClock 456).setLY (s.display.ly + 1)
  if s'.display.ly = 154 then ((s'.setLY 0).enterMode 2).statRequest 5 else s'

/-- Part (3) of `Display.Update(c)`: one mode evaluation (rule R310). -/
def State.modeEval (s : State) (c : Nat) : State :=
  let s' := { s with display := { s.display with modeClock := s.display.modeClock + c } }
  match s'.display.mode.toNat with
  | 2 => if 80 ≤ s'.display.modeClock then s'.endOamScan else s'
  | 3 => if 172 ≤ s'.display.modeClock then s'.endVramScan else s'
  | 0 => if 204 ≤ s'.display.modeClock then s'.endHBlank else s'
  | _ => if 456 ≤ s'.display.modeClock then s'.endVBlankLine else s'

/-- Part (4) of `Display.Update(c)`: the coincidence, with no edge latch (rule R316). -/
def State.coincidence (s : State) : State :=
  if s.display.ly = s.display.lyc then
    State.statRequest { s with display := s.display.setCoincidence true } 6
  else { s with display := s.display.setCoincidence false }

/-- Part (2) of `Display.Update(c)` while the display is disabled (rule R318). -/
def State.displayHeld (s : State) : State :=
  { s with display := { s.display with modeClock := 0, ly := 0x00 }.setMode 0 }

/-- `Display.Update(c)` (rule R310). -/
def State.displayUpdate (s : State) (c : Nat) : State :=
  let s' := s.dmaPhase c
  if s'.params.lcdDisableGatesFsm = true ∧ s'.display.lcdc.getLsbD 7 = false then s'.displayHeld
  else (s'.modeEval c).coincidence

/-! The timer (rule R405). -/

/-- The period of TIMA that `TAC[1:0]` selects (rule R403). -/
def timaPeriod (tac : BitVec 3) : Nat :=
  match (tac.extractLsb' 0 2).toNat with
  | 0 => 1024
  | 1 => 16
  | 2 => 64
  | _ => 256

/-- One count of TIMA, or the reload and the request on overflow (rule R401). -/
def State.timaCount (s : State) : State :=
  if s.timer.tima = 0xFF then
    State.raiseIRQ { s with timer := { s.timer with tima := s.timer.tma } } 2
  else { s with timer := { s.timer with tima := s.timer.tima + 1 } }

/-- `n` counts of TIMA, each evaluated in turn. -/
def State.timaCounts : Nat → State → State
  | 0, s => s
  | n + 1, s => State.timaCounts n s.timaCount

/-- The divider's part of `Timer.Update(c)`: as many counts as whole periods have accumulated, the remainder kept. -/
def State.divUpdate (s : State) (c : Nat) : State :=
  let t := s.timer.divClock + c
  { s with timer := { s.timer with divClock := t % 256, div := s.timer.div + BitVec.ofNat 8 (t / 256) } }

/-- The counter's part of `Timer.Update(c)`, while `TAC[2] = 1`. -/
def State.timaUpdate (s : State) (c : Nat) : State :=
  if s.timer.tac.getLsbD 2 then
    let t := s.timer.timaClock + c
    let period := timaPeriod s.timer.tac
    State.timaCounts (t / period) { s with timer := { s.timer with timaClock := t % period } }
  else s

/-- `Timer.Update(c)` (rule R405): its loops subtract a period for every count, which leaves the remainder and counts the
quotient. -/
def State.timerUpdate (s : State) (c : Nat) : State := (s.divUpdate c).timaUpdate c

/-! Audio and the host. -/

/-- `Audio.Update(c)`: the tick the external collaborator receives; no core state changes (rules R6, R13, R422; log
entry 7). -/
def State.audioUpdate (s : State) (c : Nat) : State := s.emit (.audioTick c)

/-- `SetButtons(d, a)` (rule R418). -/
def State.setButtons (s : State) (b : Buttons) : State :=
  let newDir := b.dir &&& ~~~ s.joypad.dir
  let newAct := b.act &&& ~~~ s.joypad.act
  let s' := { s with joypad := { s.joypad with dir := b.dir, act := b.act } }
  if newDir ||| newAct ≠ 0 then s'.raiseIRQ 4 else s'

/-- What the host delivers before the step that begins: at most one input event (rules R7, R418; log entry 5). -/
def State.hostTurn (s : State) : State :=
  match s.hostInputs with
  | [] => s
  | none :: rest => { s with hostInputs := rest }
  | some b :: rest => State.setButtons { s with hostInputs := rest } b

end Sys2Proof.Machine
end

