-- ==== Sys2Proof/Machine/Alu16.lean ====
section
/-! DEFINITION. 16-bit arithmetic (rules R209 to R213). -/

namespace Sys2Proof.Machine

/-- `ADD HL,rr` (rule R210). -/
def addHLPair (p : R16) (s : State) : State :=
  let x := s.regs.hl
  let y := s.regs.getPair p
  ((s.setHL (x + y)).setF
    (packFlags (flagZ s.regs.f) false (halfCarry16 x y) (decide (x.toNat + y.toNat > 0xFFFF)))).addCycles 8

/-- `ADD SP,e8` (rule R211). -/
def addSPOffset (n : Byte) (s : State) : State :=
  ((s.setSP (s.regs.sp + sext16 n)).setF (spOffsetFlags s.regs.sp n)).addCycles 16

/-- `INC rr` (rule R212). -/
def incPair (p : R16) (s : State) : State :=
  ({ s with regs := s.regs.setPair p (s.regs.getPair p + 1) } : State).addCycles 8

/-- `DEC rr` (rule R213). -/
def decPair (p : R16) (s : State) : State :=
  ({ s with regs := s.regs.setPair p (s.regs.getPair p - 1) } : State).addCycles 8

/-- `ADD HL,BC` (rule R210). -/
def execAdd_hl_bc (s : State) : Result := .next (addHLPair .bc s)

/-- `ADD HL,DE` (rule R210). -/
def execAdd_hl_de (s : State) : Result := .next (addHLPair .de s)

/-- `ADD HL,HL` (rule R210). -/
def execAdd_hl_hl (s : State) : Result := .next (addHLPair .hl s)

/-- `ADD HL,SP` (rule R210). -/
def execAdd_hl_sp (s : State) : Result := .next (addHLPair .sp s)

/-- `ADD SP,e8` (rule R211). -/
def execAdd_sp_e8 (e : Byte) (s : State) : Result := .next (addSPOffset e s)

/-- `INC BC` (rule R212). -/
def execInc_bc (s : State) : Result := .next (incPair .bc s)

/-- `INC DE` (rule R212). -/
def execInc_de (s : State) : Result := .next (incPair .de s)

/-- `INC HL` (rule R212). -/
def execInc_hl (s : State) : Result := .next (incPair .hl s)

/-- `INC SP` (rule R212). -/
def execInc_sp (s : State) : Result := .next (incPair .sp s)

/-- `DEC BC` (rule R213). -/
def execDec_bc (s : State) : Result := .next (decPair .bc s)

/-- `DEC DE` (rule R213). -/
def execDec_de (s : State) : Result := .next (decPair .de s)

/-- `DEC HL` (rule R213). -/
def execDec_hl (s : State) : Result := .next (decPair .hl s)

/-- `DEC SP` (rule R213). -/
def execDec_sp (s : State) : Result := .next (decPair .sp s)

end Sys2Proof.Machine
end

