-- ==== Sys2Proof/Machine/Alu8.lean ====
section
/-! DEFINITION. 8-bit arithmetic and logic (rules R170 to R202). -/

namespace Sys2Proof.Machine

/-- An accumulator operation on A and a source operand (rules R171 to R194). -/
def accumulate (op : AluOp) (src : Source) (s : State) : State :=
  let r := aluApply op s.regs.a (s.readSource src) s.regs.f
  (((s.afterReadSource src).setReg .a r.1).setF r.2).addCycles (4 + sourceCost src)

/-- `INC r` and `INC (HL)` (rules R195, R196). -/
def incOpnd (o : Opnd) (s : State) : State :=
  let r := inc8 (s.readOpnd o) s.regs.f
  (((s.afterReadOpnd o).writeOpnd o r.1).setF r.2).addCycles (4 + 2 * opndCost o)

/-- `DEC r` and `DEC (HL)` (rules R197, R198). -/
def decOpnd (o : Opnd) (s : State) : State :=
  let r := dec8 (s.readOpnd o) s.regs.f
  (((s.afterReadOpnd o).writeOpnd o r.1).setF r.2).addCycles (4 + 2 * opndCost o)

/-- `DAA` (rule R199). -/
def decimalAdjust (s : State) : State :=
  let r := daa8 s.regs.a s.regs.f
  ((s.setReg .a r.1).setF r.2).addCycles 4

/-- `CPL` (rule R200). -/
def complementA (s : State) : State :=
  ((s.setReg .a (s.regs.a ^^^ 0xFF)).setF (packFlags (flagZ s.regs.f) true true (flagC s.regs.f))).addCycles 4

/-- `SCF` (rule R201). -/
def setCarry (s : State) : State := (s.setF (packFlags (flagZ s.regs.f) false false true)).addCycles 4

/-- `CCF` (rule R202). -/
def complementCarry (s : State) : State :=
  (s.setF (packFlags (flagZ s.regs.f) false false (!flagC s.regs.f))).addCycles 4

/-- `ADD A,B` (rule R171). -/
def execAdd_a_b (s : State) : Result := .next (accumulate .add (.opnd (.reg .b)) s)

/-- `ADD A,C` (rule R171). -/
def execAdd_a_c (s : State) : Result := .next (accumulate .add (.opnd (.reg .c)) s)

/-- `ADD A,D` (rule R171). -/
def execAdd_a_d (s : State) : Result := .next (accumulate .add (.opnd (.reg .d)) s)

/-- `ADD A,E` (rule R171). -/
def execAdd_a_e (s : State) : Result := .next (accumulate .add (.opnd (.reg .e)) s)

/-- `ADD A,H` (rule R171). -/
def execAdd_a_h (s : State) : Result := .next (accumulate .add (.opnd (.reg .h)) s)

/-- `ADD A,L` (rule R171). -/
def execAdd_a_l (s : State) : Result := .next (accumulate .add (.opnd (.reg .l)) s)

/-- `ADD A,(HL)` (rule R172). -/
def execAdd_a_atHL (s : State) : Result := .next (accumulate .add (.opnd .atHL) s)

/-- `ADD A,A` (rule R171). -/
def execAdd_a_a (s : State) : Result := .next (accumulate .add (.opnd (.reg .a)) s)

/-- `ADD A,n8` (rule R173). -/
def execAdd_a_n8 (n : Byte) (s : State) : Result := .next (accumulate .add (.imm n) s)

/-- `ADC A,B` (rule R174). -/
def execAdc_a_b (s : State) : Result := .next (accumulate .adc (.opnd (.reg .b)) s)

/-- `ADC A,C` (rule R174). -/
def execAdc_a_c (s : State) : Result := .next (accumulate .adc (.opnd (.reg .c)) s)

/-- `ADC A,D` (rule R174). -/
def execAdc_a_d (s : State) : Result := .next (accumulate .adc (.opnd (.reg .d)) s)

/-- `ADC A,E` (rule R174). -/
def execAdc_a_e (s : State) : Result := .next (accumulate .adc (.opnd (.reg .e)) s)

/-- `ADC A,H` (rule R174). -/
def execAdc_a_h (s : State) : Result := .next (accumulate .adc (.opnd (.reg .h)) s)

/-- `ADC A,L` (rule R174). -/
def execAdc_a_l (s : State) : Result := .next (accumulate .adc (.opnd (.reg .l)) s)

/-- `ADC A,(HL)` (rule R175). -/
def execAdc_a_atHL (s : State) : Result := .next (accumulate .adc (.opnd .atHL) s)

/-- `ADC A,A` (rule R174). -/
def execAdc_a_a (s : State) : Result := .next (accumulate .adc (.opnd (.reg .a)) s)

/-- `ADC A,n8` (rule R176). -/
def execAdc_a_n8 (n : Byte) (s : State) : Result := .next (accumulate .adc (.imm n) s)

/-- `SUB B` (rule R177). -/
def execSub_b (s : State) : Result := .next (accumulate .sub (.opnd (.reg .b)) s)

/-- `SUB C` (rule R177). -/
def execSub_c (s : State) : Result := .next (accumulate .sub (.opnd (.reg .c)) s)

/-- `SUB D` (rule R177). -/
def execSub_d (s : State) : Result := .next (accumulate .sub (.opnd (.reg .d)) s)

/-- `SUB E` (rule R177). -/
def execSub_e (s : State) : Result := .next (accumulate .sub (.opnd (.reg .e)) s)

/-- `SUB H` (rule R177). -/
def execSub_h (s : State) : Result := .next (accumulate .sub (.opnd (.reg .h)) s)

/-- `SUB L` (rule R177). -/
def execSub_l (s : State) : Result := .next (accumulate .sub (.opnd (.reg .l)) s)

/-- `SUB (HL)` (rule R178). -/
def execSub_atHL (s : State) : Result := .next (accumulate .sub (.opnd .atHL) s)

/-- `SUB A` (rule R177). -/
def execSub_a (s : State) : Result := .next (accumulate .sub (.opnd (.reg .a)) s)

/-- `SUB n8` (rule R179). -/
def execSub_n8 (n : Byte) (s : State) : Result := .next (accumulate .sub (.imm n) s)

/-- `SBC A,B` (rule R180). -/
def execSbc_a_b (s : State) : Result := .next (accumulate .sbc (.opnd (.reg .b)) s)

/-- `SBC A,C` (rule R180). -/
def execSbc_a_c (s : State) : Result := .next (accumulate .sbc (.opnd (.reg .c)) s)

/-- `SBC A,D` (rule R180). -/
def execSbc_a_d (s : State) : Result := .next (accumulate .sbc (.opnd (.reg .d)) s)

/-- `SBC A,E` (rule R180). -/
def execSbc_a_e (s : State) : Result := .next (accumulate .sbc (.opnd (.reg .e)) s)

/-- `SBC A,H` (rule R180). -/
def execSbc_a_h (s : State) : Result := .next (accumulate .sbc (.opnd (.reg .h)) s)

/-- `SBC A,L` (rule R180). -/
def execSbc_a_l (s : State) : Result := .next (accumulate .sbc (.opnd (.reg .l)) s)

/-- `SBC A,(HL)` (rule R181). -/
def execSbc_a_atHL (s : State) : Result := .next (accumulate .sbc (.opnd .atHL) s)

/-- `SBC A,A` (rule R180). -/
def execSbc_a_a (s : State) : Result := .next (accumulate .sbc (.opnd (.reg .a)) s)

/-- `SBC A,n8` (rule R182). -/
def execSbc_a_n8 (n : Byte) (s : State) : Result := .next (accumulate .sbc (.imm n) s)

/-- `AND B` (rule R183). -/
def execAnd_b (s : State) : Result := .next (accumulate .and (.opnd (.reg .b)) s)

/-- `AND C` (rule R183). -/
def execAnd_c (s : State) : Result := .next (accumulate .and (.opnd (.reg .c)) s)

/-- `AND D` (rule R183). -/
def execAnd_d (s : State) : Result := .next (accumulate .and (.opnd (.reg .d)) s)

/-- `AND E` (rule R183). -/
def execAnd_e (s : State) : Result := .next (accumulate .and (.opnd (.reg .e)) s)

/-- `AND H` (rule R183). -/
def execAnd_h (s : State) : Result := .next (accumulate .and (.opnd (.reg .h)) s)

/-- `AND L` (rule R183). -/
def execAnd_l (s : State) : Result := .next (accumulate .and (.opnd (.reg .l)) s)

/-- `AND (HL)` (rule R184). -/
def execAnd_atHL (s : State) : Result := .next (accumulate .and (.opnd .atHL) s)

/-- `AND A` (rule R183). -/
def execAnd_a (s : State) : Result := .next (accumulate .and (.opnd (.reg .a)) s)

/-- `AND n8` (rule R185). -/
def execAnd_n8 (n : Byte) (s : State) : Result := .next (accumulate .and (.imm n) s)

/-- `XOR B` (rule R186). -/
def execXor_b (s : State) : Result := .next (accumulate .xor (.opnd (.reg .b)) s)

/-- `XOR C` (rule R186). -/
def execXor_c (s : State) : Result := .next (accumulate .xor (.opnd (.reg .c)) s)

/-- `XOR D` (rule R186). -/
def execXor_d (s : State) : Result := .next (accumulate .xor (.opnd (.reg .d)) s)

/-- `XOR E` (rule R186). -/
def execXor_e (s : State) : Result := .next (accumulate .xor (.opnd (.reg .e)) s)

/-- `XOR H` (rule R186). -/
def execXor_h (s : State) : Result := .next (accumulate .xor (.opnd (.reg .h)) s)

/-- `XOR L` (rule R186). -/
def execXor_l (s : State) : Result := .next (accumulate .xor (.opnd (.reg .l)) s)

/-- `XOR (HL)` (rule R187). -/
def execXor_atHL (s : State) : Result := .next (accumulate .xor (.opnd .atHL) s)

/-- `XOR A` (rule R186). -/
def execXor_a (s : State) : Result := .next (accumulate .xor (.opnd (.reg .a)) s)

/-- `XOR n8` (rule R188). -/
def execXor_n8 (n : Byte) (s : State) : Result := .next (accumulate .xor (.imm n) s)

/-- `OR B` (rule R189). -/
def execOr_b (s : State) : Result := .next (accumulate .or (.opnd (.reg .b)) s)

/-- `OR C` (rule R189). -/
def execOr_c (s : State) : Result := .next (accumulate .or (.opnd (.reg .c)) s)

/-- `OR D` (rule R189). -/
def execOr_d (s : State) : Result := .next (accumulate .or (.opnd (.reg .d)) s)

/-- `OR E` (rule R189). -/
def execOr_e (s : State) : Result := .next (accumulate .or (.opnd (.reg .e)) s)

/-- `OR H` (rule R189). -/
def execOr_h (s : State) : Result := .next (accumulate .or (.opnd (.reg .h)) s)

/-- `OR L` (rule R189). -/
def execOr_l (s : State) : Result := .next (accumulate .or (.opnd (.reg .l)) s)

/-- `OR (HL)` (rule R190). -/
def execOr_atHL (s : State) : Result := .next (accumulate .or (.opnd .atHL) s)

/-- `OR A` (rule R189). -/
def execOr_a (s : State) : Result := .next (accumulate .or (.opnd (.reg .a)) s)

/-- `OR n8` (rule R191). -/
def execOr_n8 (n : Byte) (s : State) : Result := .next (accumulate .or (.imm n) s)

/-- `CP B` (rule R192). -/
def execCp_b (s : State) : Result := .next (accumulate .cp (.opnd (.reg .b)) s)

/-- `CP C` (rule R192). -/
def execCp_c (s : State) : Result := .next (accumulate .cp (.opnd (.reg .c)) s)

/-- `CP D` (rule R192). -/
def execCp_d (s : State) : Result := .next (accumulate .cp (.opnd (.reg .d)) s)

/-- `CP E` (rule R192). -/
def execCp_e (s : State) : Result := .next (accumulate .cp (.opnd (.reg .e)) s)

/-- `CP H` (rule R192). -/
def execCp_h (s : State) : Result := .next (accumulate .cp (.opnd (.reg .h)) s)

/-- `CP L` (rule R192). -/
def execCp_l (s : State) : Result := .next (accumulate .cp (.opnd (.reg .l)) s)

/-- `CP (HL)` (rule R193). -/
def execCp_atHL (s : State) : Result := .next (accumulate .cp (.opnd .atHL) s)

/-- `CP A` (rule R192). -/
def execCp_a (s : State) : Result := .next (accumulate .cp (.opnd (.reg .a)) s)

/-- `CP n8` (rule R194). -/
def execCp_n8 (n : Byte) (s : State) : Result := .next (accumulate .cp (.imm n) s)

/-- `INC B` (rule R195). -/
def execInc_b (s : State) : Result := .next (incOpnd (.reg .b) s)

/-- `INC C` (rule R195). -/
def execInc_c (s : State) : Result := .next (incOpnd (.reg .c) s)

/-- `INC D` (rule R195). -/
def execInc_d (s : State) : Result := .next (incOpnd (.reg .d) s)

/-- `INC E` (rule R195). -/
def execInc_e (s : State) : Result := .next (incOpnd (.reg .e) s)

/-- `INC H` (rule R195). -/
def execInc_h (s : State) : Result := .next (incOpnd (.reg .h) s)

/-- `INC L` (rule R195). -/
def execInc_l (s : State) : Result := .next (incOpnd (.reg .l) s)

/-- `INC (HL)` (rule R196). -/
def execInc_atHL (s : State) : Result := .next (incOpnd .atHL s)

/-- `INC A` (rule R195). -/
def execInc_a (s : State) : Result := .next (incOpnd (.reg .a) s)

/-- `DEC B` (rule R197). -/
def execDec_b (s : State) : Result := .next (decOpnd (.reg .b) s)

/-- `DEC C` (rule R197). -/
def execDec_c (s : State) : Result := .next (decOpnd (.reg .c) s)

/-- `DEC D` (rule R197). -/
def execDec_d (s : State) : Result := .next (decOpnd (.reg .d) s)

/-- `DEC E` (rule R197). -/
def execDec_e (s : State) : Result := .next (decOpnd (.reg .e) s)

/-- `DEC H` (rule R197). -/
def execDec_h (s : State) : Result := .next (decOpnd (.reg .h) s)

/-- `DEC L` (rule R197). -/
def execDec_l (s : State) : Result := .next (decOpnd (.reg .l) s)

/-- `DEC (HL)` (rule R198). -/
def execDec_atHL (s : State) : Result := .next (decOpnd .atHL s)

/-- `DEC A` (rule R197). -/
def execDec_a (s : State) : Result := .next (decOpnd (.reg .a) s)

/-- `DAA` (rule R199). -/
def execDaa (s : State) : Result := .next (decimalAdjust s)

/-- `CPL` (rule R200). -/
def execCpl (s : State) : Result := .next (complementA s)

/-- `SCF` (rule R201). -/
def execScf (s : State) : Result := .next (setCarry s)

/-- `CCF` (rule R202). -/
def execCcf (s : State) : Result := .next (complementCarry s)

end Sys2Proof.Machine
end

