-- ==== Sys2Proof/Machine/Bit.lean ====
section
/-! DEFINITION. Bit test, reset and set (rules R240 to R245). -/

namespace Sys2Proof.Machine

/-- `BIT b` (rules R240, R241). -/
def testBit (b : Nat) (o : Opnd) (s : State) : State :=
  ((s.afterReadOpnd o).setF (packFlags (!(s.readOpnd o).getLsbD b) false true (flagC s.regs.f))).addCycles (8 + opndCost o)

/-- `RES b` (rules R242, R243). -/
def resetBit (b : Nat) (o : Opnd) (s : State) : State :=
  ((s.afterReadOpnd o).writeOpnd o (s.readOpnd o &&& ~~~ bitMask b)).addCycles (8 + 2 * opndCost o)

/-- `SET b` (rules R244, R245). -/
def setBit (b : Nat) (o : Opnd) (s : State) : State :=
  ((s.afterReadOpnd o).writeOpnd o (s.readOpnd o ||| bitMask b)).addCycles (8 + 2 * opndCost o)

/-- `BIT 0,B` (rule R240). -/
def execBit_0_b (s : State) : Result := .next (testBit 0 (.reg .b) s)

/-- `BIT 0,C` (rule R240). -/
def execBit_0_c (s : State) : Result := .next (testBit 0 (.reg .c) s)

/-- `BIT 0,D` (rule R240). -/
def execBit_0_d (s : State) : Result := .next (testBit 0 (.reg .d) s)

/-- `BIT 0,E` (rule R240). -/
def execBit_0_e (s : State) : Result := .next (testBit 0 (.reg .e) s)

/-- `BIT 0,H` (rule R240). -/
def execBit_0_h (s : State) : Result := .next (testBit 0 (.reg .h) s)

/-- `BIT 0,L` (rule R240). -/
def execBit_0_l (s : State) : Result := .next (testBit 0 (.reg .l) s)

/-- `BIT 0,(HL)` (rule R241). -/
def execBit_0_atHL (s : State) : Result := .next (testBit 0 .atHL s)

/-- `BIT 0,A` (rule R240). -/
def execBit_0_a (s : State) : Result := .next (testBit 0 (.reg .a) s)

/-- `BIT 1,B` (rule R240). -/
def execBit_1_b (s : State) : Result := .next (testBit 1 (.reg .b) s)

/-- `BIT 1,C` (rule R240). -/
def execBit_1_c (s : State) : Result := .next (testBit 1 (.reg .c) s)

/-- `BIT 1,D` (rule R240). -/
def execBit_1_d (s : State) : Result := .next (testBit 1 (.reg .d) s)

/-- `BIT 1,E` (rule R240). -/
def execBit_1_e (s : State) : Result := .next (testBit 1 (.reg .e) s)

/-- `BIT 1,H` (rule R240). -/
def execBit_1_h (s : State) : Result := .next (testBit 1 (.reg .h) s)

/-- `BIT 1,L` (rule R240). -/
def execBit_1_l (s : State) : Result := .next (testBit 1 (.reg .l) s)

/-- `BIT 1,(HL)` (rule R241). -/
def execBit_1_atHL (s : State) : Result := .next (testBit 1 .atHL s)

/-- `BIT 1,A` (rule R240). -/
def execBit_1_a (s : State) : Result := .next (testBit 1 (.reg .a) s)

/-- `BIT 2,B` (rule R240). -/
def execBit_2_b (s : State) : Result := .next (testBit 2 (.reg .b) s)

/-- `BIT 2,C` (rule R240). -/
def execBit_2_c (s : State) : Result := .next (testBit 2 (.reg .c) s)

/-- `BIT 2,D` (rule R240). -/
def execBit_2_d (s : State) : Result := .next (testBit 2 (.reg .d) s)

/-- `BIT 2,E` (rule R240). -/
def execBit_2_e (s : State) : Result := .next (testBit 2 (.reg .e) s)

/-- `BIT 2,H` (rule R240). -/
def execBit_2_h (s : State) : Result := .next (testBit 2 (.reg .h) s)

/-- `BIT 2,L` (rule R240). -/
def execBit_2_l (s : State) : Result := .next (testBit 2 (.reg .l) s)

/-- `BIT 2,(HL)` (rule R241). -/
def execBit_2_atHL (s : State) : Result := .next (testBit 2 .atHL s)

/-- `BIT 2,A` (rule R240). -/
def execBit_2_a (s : State) : Result := .next (testBit 2 (.reg .a) s)

/-- `BIT 3,B` (rule R240). -/
def execBit_3_b (s : State) : Result := .next (testBit 3 (.reg .b) s)

/-- `BIT 3,C` (rule R240). -/
def execBit_3_c (s : State) : Result := .next (testBit 3 (.reg .c) s)

/-- `BIT 3,D` (rule R240). -/
def execBit_3_d (s : State) : Result := .next (testBit 3 (.reg .d) s)

/-- `BIT 3,E` (rule R240). -/
def execBit_3_e (s : State) : Result := .next (testBit 3 (.reg .e) s)

/-- `BIT 3,H` (rule R240). -/
def execBit_3_h (s : State) : Result := .next (testBit 3 (.reg .h) s)

/-- `BIT 3,L` (rule R240). -/
def execBit_3_l (s : State) : Result := .next (testBit 3 (.reg .l) s)

/-- `BIT 3,(HL)` (rule R241). -/
def execBit_3_atHL (s : State) : Result := .next (testBit 3 .atHL s)

/-- `BIT 3,A` (rule R240). -/
def execBit_3_a (s : State) : Result := .next (testBit 3 (.reg .a) s)

/-- `BIT 4,B` (rule R240). -/
def execBit_4_b (s : State) : Result := .next (testBit 4 (.reg .b) s)

/-- `BIT 4,C` (rule R240). -/
def execBit_4_c (s : State) : Result := .next (testBit 4 (.reg .c) s)

/-- `BIT 4,D` (rule R240). -/
def execBit_4_d (s : State) : Result := .next (testBit 4 (.reg .d) s)

/-- `BIT 4,E` (rule R240). -/
def execBit_4_e (s : State) : Result := .next (testBit 4 (.reg .e) s)

/-- `BIT 4,H` (rule R240). -/
def execBit_4_h (s : State) : Result := .next (testBit 4 (.reg .h) s)

/-- `BIT 4,L` (rule R240). -/
def execBit_4_l (s : State) : Result := .next (testBit 4 (.reg .l) s)

/-- `BIT 4,(HL)` (rule R241). -/
def execBit_4_atHL (s : State) : Result := .next (testBit 4 .atHL s)

/-- `BIT 4,A` (rule R240). -/
def execBit_4_a (s : State) : Result := .next (testBit 4 (.reg .a) s)

/-- `BIT 5,B` (rule R240). -/
def execBit_5_b (s : State) : Result := .next (testBit 5 (.reg .b) s)

/-- `BIT 5,C` (rule R240). -/
def execBit_5_c (s : State) : Result := .next (testBit 5 (.reg .c) s)

/-- `BIT 5,D` (rule R240). -/
def execBit_5_d (s : State) : Result := .next (testBit 5 (.reg .d) s)

/-- `BIT 5,E` (rule R240). -/
def execBit_5_e (s : State) : Result := .next (testBit 5 (.reg .e) s)

/-- `BIT 5,H` (rule R240). -/
def execBit_5_h (s : State) : Result := .next (testBit 5 (.reg .h) s)

/-- `BIT 5,L` (rule R240). -/
def execBit_5_l (s : State) : Result := .next (testBit 5 (.reg .l) s)

/-- `BIT 5,(HL)` (rule R241). -/
def execBit_5_atHL (s : State) : Result := .next (testBit 5 .atHL s)

/-- `BIT 5,A` (rule R240). -/
def execBit_5_a (s : State) : Result := .next (testBit 5 (.reg .a) s)

/-- `BIT 6,B` (rule R240). -/
def execBit_6_b (s : State) : Result := .next (testBit 6 (.reg .b) s)

/-- `BIT 6,C` (rule R240). -/
def execBit_6_c (s : State) : Result := .next (testBit 6 (.reg .c) s)

/-- `BIT 6,D` (rule R240). -/
def execBit_6_d (s : State) : Result := .next (testBit 6 (.reg .d) s)

/-- `BIT 6,E` (rule R240). -/
def execBit_6_e (s : State) : Result := .next (testBit 6 (.reg .e) s)

/-- `BIT 6,H` (rule R240). -/
def execBit_6_h (s : State) : Result := .next (testBit 6 (.reg .h) s)

/-- `BIT 6,L` (rule R240). -/
def execBit_6_l (s : State) : Result := .next (testBit 6 (.reg .l) s)

/-- `BIT 6,(HL)` (rule R241). -/
def execBit_6_atHL (s : State) : Result := .next (testBit 6 .atHL s)

/-- `BIT 6,A` (rule R240). -/
def execBit_6_a (s : State) : Result := .next (testBit 6 (.reg .a) s)

/-- `BIT 7,B` (rule R240). -/
def execBit_7_b (s : State) : Result := .next (testBit 7 (.reg .b) s)

/-- `BIT 7,C` (rule R240). -/
def execBit_7_c (s : State) : Result := .next (testBit 7 (.reg .c) s)

/-- `BIT 7,D` (rule R240). -/
def execBit_7_d (s : State) : Result := .next (testBit 7 (.reg .d) s)

/-- `BIT 7,E` (rule R240). -/
def execBit_7_e (s : State) : Result := .next (testBit 7 (.reg .e) s)

/-- `BIT 7,H` (rule R240). -/
def execBit_7_h (s : State) : Result := .next (testBit 7 (.reg .h) s)

/-- `BIT 7,L` (rule R240). -/
def execBit_7_l (s : State) : Result := .next (testBit 7 (.reg .l) s)

/-- `BIT 7,(HL)` (rule R241). -/
def execBit_7_atHL (s : State) : Result := .next (testBit 7 .atHL s)

/-- `BIT 7,A` (rule R240). -/
def execBit_7_a (s : State) : Result := .next (testBit 7 (.reg .a) s)

/-- `RES 0,B` (rule R242). -/
def execRes_0_b (s : State) : Result := .next (resetBit 0 (.reg .b) s)

/-- `RES 0,C` (rule R242). -/
def execRes_0_c (s : State) : Result := .next (resetBit 0 (.reg .c) s)

/-- `RES 0,D` (rule R242). -/
def execRes_0_d (s : State) : Result := .next (resetBit 0 (.reg .d) s)

/-- `RES 0,E` (rule R242). -/
def execRes_0_e (s : State) : Result := .next (resetBit 0 (.reg .e) s)

/-- `RES 0,H` (rule R242). -/
def execRes_0_h (s : State) : Result := .next (resetBit 0 (.reg .h) s)

/-- `RES 0,L` (rule R242). -/
def execRes_0_l (s : State) : Result := .next (resetBit 0 (.reg .l) s)

/-- `RES 0,(HL)` (rule R243). -/
def execRes_0_atHL (s : State) : Result := .next (resetBit 0 .atHL s)

/-- `RES 0,A` (rule R242). -/
def execRes_0_a (s : State) : Result := .next (resetBit 0 (.reg .a) s)

/-- `RES 1,B` (rule R242). -/
def execRes_1_b (s : State) : Result := .next (resetBit 1 (.reg .b) s)

/-- `RES 1,C` (rule R242). -/
def execRes_1_c (s : State) : Result := .next (resetBit 1 (.reg .c) s)

/-- `RES 1,D` (rule R242). -/
def execRes_1_d (s : State) : Result := .next (resetBit 1 (.reg .d) s)

/-- `RES 1,E` (rule R242). -/
def execRes_1_e (s : State) : Result := .next (resetBit 1 (.reg .e) s)

/-- `RES 1,H` (rule R242). -/
def execRes_1_h (s : State) : Result := .next (resetBit 1 (.reg .h) s)

/-- `RES 1,L` (rule R242). -/
def execRes_1_l (s : State) : Result := .next (resetBit 1 (.reg .l) s)

/-- `RES 1,(HL)` (rule R243). -/
def execRes_1_atHL (s : State) : Result := .next (resetBit 1 .atHL s)

/-- `RES 1,A` (rule R242). -/
def execRes_1_a (s : State) : Result := .next (resetBit 1 (.reg .a) s)

/-- `RES 2,B` (rule R242). -/
def execRes_2_b (s : State) : Result := .next (resetBit 2 (.reg .b) s)

/-- `RES 2,C` (rule R242). -/
def execRes_2_c (s : State) : Result := .next (resetBit 2 (.reg .c) s)

/-- `RES 2,D` (rule R242). -/
def execRes_2_d (s : State) : Result := .next (resetBit 2 (.reg .d) s)

/-- `RES 2,E` (rule R242). -/
def execRes_2_e (s : State) : Result := .next (resetBit 2 (.reg .e) s)

/-- `RES 2,H` (rule R242). -/
def execRes_2_h (s : State) : Result := .next (resetBit 2 (.reg .h) s)

/-- `RES 2,L` (rule R242). -/
def execRes_2_l (s : State) : Result := .next (resetBit 2 (.reg .l) s)

/-- `RES 2,(HL)` (rule R243). -/
def execRes_2_atHL (s : State) : Result := .next (resetBit 2 .atHL s)

/-- `RES 2,A` (rule R242). -/
def execRes_2_a (s : State) : Result := .next (resetBit 2 (.reg .a) s)

/-- `RES 3,B` (rule R242). -/
def execRes_3_b (s : State) : Result := .next (resetBit 3 (.reg .b) s)

/-- `RES 3,C` (rule R242). -/
def execRes_3_c (s : State) : Result := .next (resetBit 3 (.reg .c) s)

/-- `RES 3,D` (rule R242). -/
def execRes_3_d (s : State) : Result := .next (resetBit 3 (.reg .d) s)

/-- `RES 3,E` (rule R242). -/
def execRes_3_e (s : State) : Result := .next (resetBit 3 (.reg .e) s)

/-- `RES 3,H` (rule R242). -/
def execRes_3_h (s : State) : Result := .next (resetBit 3 (.reg .h) s)

/-- `RES 3,L` (rule R242). -/
def execRes_3_l (s : State) : Result := .next (resetBit 3 (.reg .l) s)

/-- `RES 3,(HL)` (rule R243). -/
def execRes_3_atHL (s : State) : Result := .next (resetBit 3 .atHL s)

/-- `RES 3,A` (rule R242). -/
def execRes_3_a (s : State) : Result := .next (resetBit 3 (.reg .a) s)

/-- `RES 4,B` (rule R242). -/
def execRes_4_b (s : State) : Result := .next (resetBit 4 (.reg .b) s)

/-- `RES 4,C` (rule R242). -/
def execRes_4_c (s : State) : Result := .next (resetBit 4 (.reg .c) s)

/-- `RES 4,D` (rule R242). -/
def execRes_4_d (s : State) : Result := .next (resetBit 4 (.reg .d) s)

/-- `RES 4,E` (rule R242). -/
def execRes_4_e (s : State) : Result := .next (resetBit 4 (.reg .e) s)

/-- `RES 4,H` (rule R242). -/
def execRes_4_h (s : State) : Result := .next (resetBit 4 (.reg .h) s)

/-- `RES 4,L` (rule R242). -/
def execRes_4_l (s : State) : Result := .next (resetBit 4 (.reg .l) s)

/-- `RES 4,(HL)` (rule R243). -/
def execRes_4_atHL (s : State) : Result := .next (resetBit 4 .atHL s)

/-- `RES 4,A` (rule R242). -/
def execRes_4_a (s : State) : Result := .next (resetBit 4 (.reg .a) s)

/-- `RES 5,B` (rule R242). -/
def execRes_5_b (s : State) : Result := .next (resetBit 5 (.reg .b) s)

/-- `RES 5,C` (rule R242). -/
def execRes_5_c (s : State) : Result := .next (resetBit 5 (.reg .c) s)

/-- `RES 5,D` (rule R242). -/
def execRes_5_d (s : State) : Result := .next (resetBit 5 (.reg .d) s)

/-- `RES 5,E` (rule R242). -/
def execRes_5_e (s : State) : Result := .next (resetBit 5 (.reg .e) s)

/-- `RES 5,H` (rule R242). -/
def execRes_5_h (s : State) : Result := .next (resetBit 5 (.reg .h) s)

/-- `RES 5,L` (rule R242). -/
def execRes_5_l (s : State) : Result := .next (resetBit 5 (.reg .l) s)

/-- `RES 5,(HL)` (rule R243). -/
def execRes_5_atHL (s : State) : Result := .next (resetBit 5 .atHL s)

/-- `RES 5,A` (rule R242). -/
def execRes_5_a (s : State) : Result := .next (resetBit 5 (.reg .a) s)

/-- `RES 6,B` (rule R242). -/
def execRes_6_b (s : State) : Result := .next (resetBit 6 (.reg .b) s)

/-- `RES 6,C` (rule R242). -/
def execRes_6_c (s : State) : Result := .next (resetBit 6 (.reg .c) s)

/-- `RES 6,D` (rule R242). -/
def execRes_6_d (s : State) : Result := .next (resetBit 6 (.reg .d) s)

/-- `RES 6,E` (rule R242). -/
def execRes_6_e (s : State) : Result := .next (resetBit 6 (.reg .e) s)

/-- `RES 6,H` (rule R242). -/
def execRes_6_h (s : State) : Result := .next (resetBit 6 (.reg .h) s)

/-- `RES 6,L` (rule R242). -/
def execRes_6_l (s : State) : Result := .next (resetBit 6 (.reg .l) s)

/-- `RES 6,(HL)` (rule R243). -/
def execRes_6_atHL (s : State) : Result := .next (resetBit 6 .atHL s)

/-- `RES 6,A` (rule R242). -/
def execRes_6_a (s : State) : Result := .next (resetBit 6 (.reg .a) s)

/-- `RES 7,B` (rule R242). -/
def execRes_7_b (s : State) : Result := .next (resetBit 7 (.reg .b) s)

/-- `RES 7,C` (rule R242). -/
def execRes_7_c (s : State) : Result := .next (resetBit 7 (.reg .c) s)

/-- `RES 7,D` (rule R242). -/
def execRes_7_d (s : State) : Result := .next (resetBit 7 (.reg .d) s)

/-- `RES 7,E` (rule R242). -/
def execRes_7_e (s : State) : Result := .next (resetBit 7 (.reg .e) s)

/-- `RES 7,H` (rule R242). -/
def execRes_7_h (s : State) : Result := .next (resetBit 7 (.reg .h) s)

/-- `RES 7,L` (rule R242). -/
def execRes_7_l (s : State) : Result := .next (resetBit 7 (.reg .l) s)

/-- `RES 7,(HL)` (rule R243). -/
def execRes_7_atHL (s : State) : Result := .next (resetBit 7 .atHL s)

/-- `RES 7,A` (rule R242). -/
def execRes_7_a (s : State) : Result := .next (resetBit 7 (.reg .a) s)

/-- `SET 0,B` (rule R244). -/
def execSet_0_b (s : State) : Result := .next (setBit 0 (.reg .b) s)

/-- `SET 0,C` (rule R244). -/
def execSet_0_c (s : State) : Result := .next (setBit 0 (.reg .c) s)

/-- `SET 0,D` (rule R244). -/
def execSet_0_d (s : State) : Result := .next (setBit 0 (.reg .d) s)

/-- `SET 0,E` (rule R244). -/
def execSet_0_e (s : State) : Result := .next (setBit 0 (.reg .e) s)

/-- `SET 0,H` (rule R244). -/
def execSet_0_h (s : State) : Result := .next (setBit 0 (.reg .h) s)

/-- `SET 0,L` (rule R244). -/
def execSet_0_l (s : State) : Result := .next (setBit 0 (.reg .l) s)

/-- `SET 0,(HL)` (rule R245). -/
def execSet_0_atHL (s : State) : Result := .next (setBit 0 .atHL s)

/-- `SET 0,A` (rule R244). -/
def execSet_0_a (s : State) : Result := .next (setBit 0 (.reg .a) s)

/-- `SET 1,B` (rule R244). -/
def execSet_1_b (s : State) : Result := .next (setBit 1 (.reg .b) s)

/-- `SET 1,C` (rule R244). -/
def execSet_1_c (s : State) : Result := .next (setBit 1 (.reg .c) s)

/-- `SET 1,D` (rule R244). -/
def execSet_1_d (s : State) : Result := .next (setBit 1 (.reg .d) s)

/-- `SET 1,E` (rule R244). -/
def execSet_1_e (s : State) : Result := .next (setBit 1 (.reg .e) s)

/-- `SET 1,H` (rule R244). -/
def execSet_1_h (s : State) : Result := .next (setBit 1 (.reg .h) s)

/-- `SET 1,L` (rule R244). -/
def execSet_1_l (s : State) : Result := .next (setBit 1 (.reg .l) s)

/-- `SET 1,(HL)` (rule R245). -/
def execSet_1_atHL (s : State) : Result := .next (setBit 1 .atHL s)

/-- `SET 1,A` (rule R244). -/
def execSet_1_a (s : State) : Result := .next (setBit 1 (.reg .a) s)

/-- `SET 2,B` (rule R244). -/
def execSet_2_b (s : State) : Result := .next (setBit 2 (.reg .b) s)

/-- `SET 2,C` (rule R244). -/
def execSet_2_c (s : State) : Result := .next (setBit 2 (.reg .c) s)

/-- `SET 2,D` (rule R244). -/
def execSet_2_d (s : State) : Result := .next (setBit 2 (.reg .d) s)

/-- `SET 2,E` (rule R244). -/
def execSet_2_e (s : State) : Result := .next (setBit 2 (.reg .e) s)

/-- `SET 2,H` (rule R244). -/
def execSet_2_h (s : State) : Result := .next (setBit 2 (.reg .h) s)

/-- `SET 2,L` (rule R244). -/
def execSet_2_l (s : State) : Result := .next (setBit 2 (.reg .l) s)

/-- `SET 2,(HL)` (rule R245). -/
def execSet_2_atHL (s : State) : Result := .next (setBit 2 .atHL s)

/-- `SET 2,A` (rule R244). -/
def execSet_2_a (s : State) : Result := .next (setBit 2 (.reg .a) s)

/-- `SET 3,B` (rule R244). -/
def execSet_3_b (s : State) : Result := .next (setBit 3 (.reg .b) s)

/-- `SET 3,C` (rule R244). -/
def execSet_3_c (s : State) : Result := .next (setBit 3 (.reg .c) s)

/-- `SET 3,D` (rule R244). -/
def execSet_3_d (s : State) : Result := .next (setBit 3 (.reg .d) s)

/-- `SET 3,E` (rule R244). -/
def execSet_3_e (s : State) : Result := .next (setBit 3 (.reg .e) s)

/-- `SET 3,H` (rule R244). -/
def execSet_3_h (s : State) : Result := .next (setBit 3 (.reg .h) s)

/-- `SET 3,L` (rule R244). -/
def execSet_3_l (s : State) : Result := .next (setBit 3 (.reg .l) s)

/-- `SET 3,(HL)` (rule R245). -/
def execSet_3_atHL (s : State) : Result := .next (setBit 3 .atHL s)

/-- `SET 3,A` (rule R244). -/
def execSet_3_a (s : State) : Result := .next (setBit 3 (.reg .a) s)

/-- `SET 4,B` (rule R244). -/
def execSet_4_b (s : State) : Result := .next (setBit 4 (.reg .b) s)

/-- `SET 4,C` (rule R244). -/
def execSet_4_c (s : State) : Result := .next (setBit 4 (.reg .c) s)

/-- `SET 4,D` (rule R244). -/
def execSet_4_d (s : State) : Result := .next (setBit 4 (.reg .d) s)

/-- `SET 4,E` (rule R244). -/
def execSet_4_e (s : State) : Result := .next (setBit 4 (.reg .e) s)

/-- `SET 4,H` (rule R244). -/
def execSet_4_h (s : State) : Result := .next (setBit 4 (.reg .h) s)

/-- `SET 4,L` (rule R244). -/
def execSet_4_l (s : State) : Result := .next (setBit 4 (.reg .l) s)

/-- `SET 4,(HL)` (rule R245). -/
def execSet_4_atHL (s : State) : Result := .next (setBit 4 .atHL s)

/-- `SET 4,A` (rule R244). -/
def execSet_4_a (s : State) : Result := .next (setBit 4 (.reg .a) s)

/-- `SET 5,B` (rule R244). -/
def execSet_5_b (s : State) : Result := .next (setBit 5 (.reg .b) s)

/-- `SET 5,C` (rule R244). -/
def execSet_5_c (s : State) : Result := .next (setBit 5 (.reg .c) s)

/-- `SET 5,D` (rule R244). -/
def execSet_5_d (s : State) : Result := .next (setBit 5 (.reg .d) s)

/-- `SET 5,E` (rule R244). -/
def execSet_5_e (s : State) : Result := .next (setBit 5 (.reg .e) s)

/-- `SET 5,H` (rule R244). -/
def execSet_5_h (s : State) : Result := .next (setBit 5 (.reg .h) s)

/-- `SET 5,L` (rule R244). -/
def execSet_5_l (s : State) : Result := .next (setBit 5 (.reg .l) s)

/-- `SET 5,(HL)` (rule R245). -/
def execSet_5_atHL (s : State) : Result := .next (setBit 5 .atHL s)

/-- `SET 5,A` (rule R244). -/
def execSet_5_a (s : State) : Result := .next (setBit 5 (.reg .a) s)

/-- `SET 6,B` (rule R244). -/
def execSet_6_b (s : State) : Result := .next (setBit 6 (.reg .b) s)

/-- `SET 6,C` (rule R244). -/
def execSet_6_c (s : State) : Result := .next (setBit 6 (.reg .c) s)

/-- `SET 6,D` (rule R244). -/
def execSet_6_d (s : State) : Result := .next (setBit 6 (.reg .d) s)

/-- `SET 6,E` (rule R244). -/
def execSet_6_e (s : State) : Result := .next (setBit 6 (.reg .e) s)

/-- `SET 6,H` (rule R244). -/
def execSet_6_h (s : State) : Result := .next (setBit 6 (.reg .h) s)

/-- `SET 6,L` (rule R244). -/
def execSet_6_l (s : State) : Result := .next (setBit 6 (.reg .l) s)

/-- `SET 6,(HL)` (rule R245). -/
def execSet_6_atHL (s : State) : Result := .next (setBit 6 .atHL s)

/-- `SET 6,A` (rule R244). -/
def execSet_6_a (s : State) : Result := .next (setBit 6 (.reg .a) s)

/-- `SET 7,B` (rule R244). -/
def execSet_7_b (s : State) : Result := .next (setBit 7 (.reg .b) s)

/-- `SET 7,C` (rule R244). -/
def execSet_7_c (s : State) : Result := .next (setBit 7 (.reg .c) s)

/-- `SET 7,D` (rule R244). -/
def execSet_7_d (s : State) : Result := .next (setBit 7 (.reg .d) s)

/-- `SET 7,E` (rule R244). -/
def execSet_7_e (s : State) : Result := .next (setBit 7 (.reg .e) s)

/-- `SET 7,H` (rule R244). -/
def execSet_7_h (s : State) : Result := .next (setBit 7 (.reg .h) s)

/-- `SET 7,L` (rule R244). -/
def execSet_7_l (s : State) : Result := .next (setBit 7 (.reg .l) s)

/-- `SET 7,(HL)` (rule R245). -/
def execSet_7_atHL (s : State) : Result := .next (setBit 7 .atHL s)

/-- `SET 7,A` (rule R244). -/
def execSet_7_a (s : State) : Result := .next (setBit 7 (.reg .a) s)

end Sys2Proof.Machine
end

