-- ==== Sys2Proof/Machine/Control.lean ====
section
/-! DEFINITION. Jumps, calls, returns and restarts (rules R254 to R265): PC is past the instruction when a meaning runs. -/

namespace Sys2Proof.Machine

/-- `PC <- a` (rules R255, R257, R258). -/
def jumpTo (a : Word) (cost : Nat) (s : State) : State := (s.setPC a).addCycles cost

/-- `if Cond(cc): PC <- a` (rules R256, R259). -/
def jumpIf (cc : Cond) (a : Word) (taken notTaken : Nat) (s : State) : State :=
  if condHolds cc s.regs.f then jumpTo a taken s else s.addCycles notTaken

/-- `Push16(PC); PC <- a` (rules R260, R265). -/
def callTo (a : Word) (cost : Nat) (s : State) : State := ((s.push16 s.regs.pc).setPC a).addCycles cost

/-- `if Cond(cc): Push16(PC); PC <- a` (rule R261). -/
def callIf (cc : Cond) (a : Word) (s : State) : State :=
  if condHolds cc s.regs.f then callTo a 24 s else s.addCycles 12

/-- `PC <- Pop16()` (rule R262). -/
def returnFromCall (cost : Nat) (s : State) : State :=
  let r := s.pop16
  (r.2.setPC r.1).addCycles cost

/-- `if Cond(cc): PC <- Pop16()` (rule R263). -/
def returnIf (cc : Cond) (s : State) : State :=
  if condHolds cc s.regs.f then returnFromCall 20 s else s.addCycles 8

/-- `JP n16` (rule R255). -/
def execJp_n16 (n : Word) (s : State) : Result := .next (jumpTo n 16 s)

/-- `JP NZ,n16` (rule R256). -/
def execJp_nz_n16 (n : Word) (s : State) : Result := .next (jumpIf .nz n 16 12 s)

/-- `JP Z,n16` (rule R256). -/
def execJp_z_n16 (n : Word) (s : State) : Result := .next (jumpIf .z n 16 12 s)

/-- `JP NC,n16` (rule R256). -/
def execJp_nc_n16 (n : Word) (s : State) : Result := .next (jumpIf .nc n 16 12 s)

/-- `JP C,n16` (rule R256). -/
def execJp_c_n16 (n : Word) (s : State) : Result := .next (jumpIf .c n 16 12 s)

/-- `JP HL` (rule R257). -/
def execJp_hl (s : State) : Result := .next (jumpTo s.regs.hl 4 s)

/-- `JR e8` (rule R258). -/
def execJr_e8 (e : Byte) (s : State) : Result := .next (jumpTo (s.regs.pc + sext16 e) 12 s)

/-- `JR NZ,e8` (rule R259). -/
def execJr_nz_e8 (e : Byte) (s : State) : Result := .next (jumpIf .nz (s.regs.pc + sext16 e) 12 8 s)

/-- `JR Z,e8` (rule R259). -/
def execJr_z_e8 (e : Byte) (s : State) : Result := .next (jumpIf .z (s.regs.pc + sext16 e) 12 8 s)

/-- `JR NC,e8` (rule R259). -/
def execJr_nc_e8 (e : Byte) (s : State) : Result := .next (jumpIf .nc (s.regs.pc + sext16 e) 12 8 s)

/-- `JR C,e8` (rule R259). -/
def execJr_c_e8 (e : Byte) (s : State) : Result := .next (jumpIf .c (s.regs.pc + sext16 e) 12 8 s)

/-- `CALL n16` (rule R260). -/
def execCall_n16 (n : Word) (s : State) : Result := .next (callTo n 24 s)

/-- `CALL NZ,n16` (rule R261). -/
def execCall_nz_n16 (n : Word) (s : State) : Result := .next (callIf .nz n s)

/-- `CALL Z,n16` (rule R261). -/
def execCall_z_n16 (n : Word) (s : State) : Result := .next (callIf .z n s)

/-- `CALL NC,n16` (rule R261). -/
def execCall_nc_n16 (n : Word) (s : State) : Result := .next (callIf .nc n s)

/-- `CALL C,n16` (rule R261). -/
def execCall_c_n16 (n : Word) (s : State) : Result := .next (callIf .c n s)

/-- `RET` (rule R262). -/
def execRet (s : State) : Result := .next (returnFromCall 16 s)

/-- `RET NZ` (rule R263). -/
def execRet_nz (s : State) : Result := .next (returnIf .nz s)

/-- `RET Z` (rule R263). -/
def execRet_z (s : State) : Result := .next (returnIf .z s)

/-- `RET NC` (rule R263). -/
def execRet_nc (s : State) : Result := .next (returnIf .nc s)

/-- `RET C` (rule R263). -/
def execRet_c (s : State) : Result := .next (returnIf .c s)

/-- `RETI` (rule R264). -/
def execReti (s : State) : Result := .next (s.returnFromInterrupt.addCycles 16)

/-- `RST 0x00` (rule R265). -/
def execRst_00 (s : State) : Result := .next (callTo 0x0000 16 s)

/-- `RST 0x08` (rule R265). -/
def execRst_08 (s : State) : Result := .next (callTo 0x0008 16 s)

/-- `RST 0x10` (rule R265). -/
def execRst_10 (s : State) : Result := .next (callTo 0x0010 16 s)

/-- `RST 0x18` (rule R265). -/
def execRst_18 (s : State) : Result := .next (callTo 0x0018 16 s)

/-- `RST 0x20` (rule R265). -/
def execRst_20 (s : State) : Result := .next (callTo 0x0020 16 s)

/-- `RST 0x28` (rule R265). -/
def execRst_28 (s : State) : Result := .next (callTo 0x0028 16 s)

/-- `RST 0x30` (rule R265). -/
def execRst_30 (s : State) : Result := .next (callTo 0x0030 16 s)

/-- `RST 0x38` (rule R265). -/
def execRst_38 (s : State) : Result := .next (callTo 0x0038 16 s)

end Sys2Proof.Machine
end

