-- ==== Sys2Proof/Machine/Load16.lean ====
section
/-! DEFINITION. The 16-bit loads and the stack instructions (rules R155 to R161). -/

namespace Sys2Proof.Machine

/-- `rr <- w` (rule R155). -/
def ldPairImm (p : R16) (w : Word) (s : State) : State := ({ s with regs := s.regs.setPair p w } : State).addCycles 12

/-- `LD (n16),SP`: the low byte at `a`, then the high byte at `a + 1` (rule R156). -/
def storeSP (a : Word) (s : State) : State :=
  ((s.memWrite a (loByte s.regs.sp)).memWrite (a + 1) (hiByte s.regs.sp)).addCycles 20

/-- `LD HL,SP+e8` (rule R158). -/
def ldHLSPOffset (n : Byte) (s : State) : State :=
  ((s.setHL (s.regs.sp + sext16 n)).setF (spOffsetFlags s.regs.sp n)).addCycles 12

/-- `PUSH rr` (rule R159). -/
def pushPair (p : StackPair) (s : State) : State := (s.push16 (s.regs.getStackPair p)).addCycles 16

/-- `POP rr` and `POP AF` (rules R160, R161). -/
def popPair (p : StackPair) (s : State) : State :=
  let r := s.pop16
  ({ r.2 with regs := r.2.regs.setStackPair p r.1 } : State).addCycles 12

/-- `LD BC,n16` (rule R155). -/
def execLd_bc_n16 (n : Word) (s : State) : Result := .next (ldPairImm .bc n s)

/-- `LD DE,n16` (rule R155). -/
def execLd_de_n16 (n : Word) (s : State) : Result := .next (ldPairImm .de n s)

/-- `LD HL,n16` (rule R155). -/
def execLd_hl_n16 (n : Word) (s : State) : Result := .next (ldPairImm .hl n s)

/-- `LD SP,n16` (rule R155). -/
def execLd_sp_n16 (n : Word) (s : State) : Result := .next (ldPairImm .sp n s)

/-- `LD (n16),SP` (rule R156). -/
def execLd_atN16_sp (n : Word) (s : State) : Result := .next (storeSP n s)

/-- `LD SP,HL` (rule R157). -/
def execLd_sp_hl (s : State) : Result := .next ((s.setSP s.regs.hl).addCycles 8)

/-- `LD HL,SP+e8` (rule R158). -/
def execLd_hl_spE8 (e : Byte) (s : State) : Result := .next (ldHLSPOffset e s)

/-- `PUSH BC` (rule R159). -/
def execPush_bc (s : State) : Result := .next (pushPair .bc s)

/-- `PUSH DE` (rule R159). -/
def execPush_de (s : State) : Result := .next (pushPair .de s)

/-- `PUSH HL` (rule R159). -/
def execPush_hl (s : State) : Result := .next (pushPair .hl s)

/-- `PUSH AF` (rule R159). -/
def execPush_af (s : State) : Result := .next (pushPair .af s)

/-- `POP BC` (rule R160). -/
def execPop_bc (s : State) : Result := .next (popPair .bc s)

/-- `POP DE` (rule R160). -/
def execPop_de (s : State) : Result := .next (popPair .de s)

/-- `POP HL` (rule R160). -/
def execPop_hl (s : State) : Result := .next (popPair .hl s)

/-- `POP AF` (rule R161). -/
def execPop_af (s : State) : Result := .next (popPair .af s)

end Sys2Proof.Machine
end

