-- ==== Sys2Proof/Machine/Load8.lean ====
section
/-! DEFINITION. The 8-bit loads (rules R129 to R148): PC is past the instruction when a meaning runs, and no flag is written. -/

namespace Sys2Proof.Machine

/-- `x[dst] <- x[src]` (rule R130). -/
def ldRegReg (dst src : R8) (s : State) : State := (s.setReg dst (s.regs.get src)).addCycles 4

/-- `x[y] <- n` or `MemWrite(HL,1,n)` (rules R131, R134). -/
def ldOpndImm (o : Opnd) (n : Byte) (s : State) : State := (s.writeOpnd o n).addCycles (8 + opndCost o)

/-- `x[dst] <- MemRead(ea,1)` (rule R129). -/
def loadByte (dst : R8) (ea : Word) (cost : Nat) (s : State) : State :=
  ((s.afterRead ea).setReg dst (s.memRead ea)).addCycles cost

/-- `MemWrite(ea,1,v)` (rule R129). -/
def storeByte (ea : Word) (v : Byte) (cost : Nat) (s : State) : State := (s.memWrite ea v).addCycles cost

/-- `LD B,B` (rule R130). -/
def execLd_b_b (s : State) : Result := .next (ldRegReg .b .b s)

/-- `LD B,C` (rule R130). -/
def execLd_b_c (s : State) : Result := .next (ldRegReg .b .c s)

/-- `LD B,D` (rule R130). -/
def execLd_b_d (s : State) : Result := .next (ldRegReg .b .d s)

/-- `LD B,E` (rule R130). -/
def execLd_b_e (s : State) : Result := .next (ldRegReg .b .e s)

/-- `LD B,H` (rule R130). -/
def execLd_b_h (s : State) : Result := .next (ldRegReg .b .h s)

/-- `LD B,L` (rule R130). -/
def execLd_b_l (s : State) : Result := .next (ldRegReg .b .l s)

/-- `LD B,A` (rule R130). -/
def execLd_b_a (s : State) : Result := .next (ldRegReg .b .a s)

/-- `LD C,B` (rule R130). -/
def execLd_c_b (s : State) : Result := .next (ldRegReg .c .b s)

/-- `LD C,C` (rule R130). -/
def execLd_c_c (s : State) : Result := .next (ldRegReg .c .c s)

/-- `LD C,D` (rule R130). -/
def execLd_c_d (s : State) : Result := .next (ldRegReg .c .d s)

/-- `LD C,E` (rule R130). -/
def execLd_c_e (s : State) : Result := .next (ldRegReg .c .e s)

/-- `LD C,H` (rule R130). -/
def execLd_c_h (s : State) : Result := .next (ldRegReg .c .h s)

/-- `LD C,L` (rule R130). -/
def execLd_c_l (s : State) : Result := .next (ldRegReg .c .l s)

/-- `LD C,A` (rule R130). -/
def execLd_c_a (s : State) : Result := .next (ldRegReg .c .a s)

/-- `LD D,B` (rule R130). -/
def execLd_d_b (s : State) : Result := .next (ldRegReg .d .b s)

/-- `LD D,C` (rule R130). -/
def execLd_d_c (s : State) : Result := .next (ldRegReg .d .c s)

/-- `LD D,D` (rule R130). -/
def execLd_d_d (s : State) : Result := .next (ldRegReg .d .d s)

/-- `LD D,E` (rule R130). -/
def execLd_d_e (s : State) : Result := .next (ldRegReg .d .e s)

/-- `LD D,H` (rule R130). -/
def execLd_d_h (s : State) : Result := .next (ldRegReg .d .h s)

/-- `LD D,L` (rule R130). -/
def execLd_d_l (s : State) : Result := .next (ldRegReg .d .l s)

/-- `LD D,A` (rule R130). -/
def execLd_d_a (s : State) : Result := .next (ldRegReg .d .a s)

/-- `LD E,B` (rule R130). -/
def execLd_e_b (s : State) : Result := .next (ldRegReg .e .b s)

/-- `LD E,C` (rule R130). -/
def execLd_e_c (s : State) : Result := .next (ldRegReg .e .c s)

/-- `LD E,D` (rule R130). -/
def execLd_e_d (s : State) : Result := .next (ldRegReg .e .d s)

/-- `LD E,E` (rule R130). -/
def execLd_e_e (s : State) : Result := .next (ldRegReg .e .e s)

/-- `LD E,H` (rule R130). -/
def execLd_e_h (s : State) : Result := .next (ldRegReg .e .h s)

/-- `LD E,L` (rule R130). -/
def execLd_e_l (s : State) : Result := .next (ldRegReg .e .l s)

/-- `LD E,A` (rule R130). -/
def execLd_e_a (s : State) : Result := .next (ldRegReg .e .a s)

/-- `LD H,B` (rule R130). -/
def execLd_h_b (s : State) : Result := .next (ldRegReg .h .b s)

/-- `LD H,C` (rule R130). -/
def execLd_h_c (s : State) : Result := .next (ldRegReg .h .c s)

/-- `LD H,D` (rule R130). -/
def execLd_h_d (s : State) : Result := .next (ldRegReg .h .d s)

/-- `LD H,E` (rule R130). -/
def execLd_h_e (s : State) : Result := .next (ldRegReg .h .e s)

/-- `LD H,H` (rule R130). -/
def execLd_h_h (s : State) : Result := .next (ldRegReg .h .h s)

/-- `LD H,L` (rule R130). -/
def execLd_h_l (s : State) : Result := .next (ldRegReg .h .l s)

/-- `LD H,A` (rule R130). -/
def execLd_h_a (s : State) : Result := .next (ldRegReg .h .a s)

/-- `LD L,B` (rule R130). -/
def execLd_l_b (s : State) : Result := .next (ldRegReg .l .b s)

/-- `LD L,C` (rule R130). -/
def execLd_l_c (s : State) : Result := .next (ldRegReg .l .c s)

/-- `LD L,D` (rule R130). -/
def execLd_l_d (s : State) : Result := .next (ldRegReg .l .d s)

/-- `LD L,E` (rule R130). -/
def execLd_l_e (s : State) : Result := .next (ldRegReg .l .e s)

/-- `LD L,H` (rule R130). -/
def execLd_l_h (s : State) : Result := .next (ldRegReg .l .h s)

/-- `LD L,L` (rule R130). -/
def execLd_l_l (s : State) : Result := .next (ldRegReg .l .l s)

/-- `LD L,A` (rule R130). -/
def execLd_l_a (s : State) : Result := .next (ldRegReg .l .a s)

/-- `LD A,B` (rule R130). -/
def execLd_a_b (s : State) : Result := .next (ldRegReg .a .b s)

/-- `LD A,C` (rule R130). -/
def execLd_a_c (s : State) : Result := .next (ldRegReg .a .c s)

/-- `LD A,D` (rule R130). -/
def execLd_a_d (s : State) : Result := .next (ldRegReg .a .d s)

/-- `LD A,E` (rule R130). -/
def execLd_a_e (s : State) : Result := .next (ldRegReg .a .e s)

/-- `LD A,H` (rule R130). -/
def execLd_a_h (s : State) : Result := .next (ldRegReg .a .h s)

/-- `LD A,L` (rule R130). -/
def execLd_a_l (s : State) : Result := .next (ldRegReg .a .l s)

/-- `LD A,A` (rule R130). -/
def execLd_a_a (s : State) : Result := .next (ldRegReg .a .a s)

/-- `LD B,n8` (rule R131). -/
def execLd_b_n8 (n : Byte) (s : State) : Result := .next (ldOpndImm (.reg .b) n s)

/-- `LD C,n8` (rule R131). -/
def execLd_c_n8 (n : Byte) (s : State) : Result := .next (ldOpndImm (.reg .c) n s)

/-- `LD D,n8` (rule R131). -/
def execLd_d_n8 (n : Byte) (s : State) : Result := .next (ldOpndImm (.reg .d) n s)

/-- `LD E,n8` (rule R131). -/
def execLd_e_n8 (n : Byte) (s : State) : Result := .next (ldOpndImm (.reg .e) n s)

/-- `LD H,n8` (rule R131). -/
def execLd_h_n8 (n : Byte) (s : State) : Result := .next (ldOpndImm (.reg .h) n s)

/-- `LD L,n8` (rule R131). -/
def execLd_l_n8 (n : Byte) (s : State) : Result := .next (ldOpndImm (.reg .l) n s)

/-- `LD (HL),n8` (rule R134). -/
def execLd_atHL_n8 (n : Byte) (s : State) : Result := .next (ldOpndImm .atHL n s)

/-- `LD A,n8` (rule R131). -/
def execLd_a_n8 (n : Byte) (s : State) : Result := .next (ldOpndImm (.reg .a) n s)

/-- `LD B,(HL)` (rule R132). -/
def execLd_b_atHL (s : State) : Result := .next (loadByte .b s.regs.hl 8 s)

/-- `LD C,(HL)` (rule R132). -/
def execLd_c_atHL (s : State) : Result := .next (loadByte .c s.regs.hl 8 s)

/-- `LD D,(HL)` (rule R132). -/
def execLd_d_atHL (s : State) : Result := .next (loadByte .d s.regs.hl 8 s)

/-- `LD E,(HL)` (rule R132). -/
def execLd_e_atHL (s : State) : Result := .next (loadByte .e s.regs.hl 8 s)

/-- `LD H,(HL)` (rule R132). -/
def execLd_h_atHL (s : State) : Result := .next (loadByte .h s.regs.hl 8 s)

/-- `LD L,(HL)` (rule R132). -/
def execLd_l_atHL (s : State) : Result := .next (loadByte .l s.regs.hl 8 s)

/-- `LD A,(HL)` (rule R132). -/
def execLd_a_atHL (s : State) : Result := .next (loadByte .a s.regs.hl 8 s)

/-- `LD (HL),B` (rule R133). -/
def execLd_atHL_b (s : State) : Result := .next (storeByte s.regs.hl s.regs.b 8 s)

/-- `LD (HL),C` (rule R133). -/
def execLd_atHL_c (s : State) : Result := .next (storeByte s.regs.hl s.regs.c 8 s)

/-- `LD (HL),D` (rule R133). -/
def execLd_atHL_d (s : State) : Result := .next (storeByte s.regs.hl s.regs.d 8 s)

/-- `LD (HL),E` (rule R133). -/
def execLd_atHL_e (s : State) : Result := .next (storeByte s.regs.hl s.regs.e 8 s)

/-- `LD (HL),H` (rule R133). -/
def execLd_atHL_h (s : State) : Result := .next (storeByte s.regs.hl s.regs.h 8 s)

/-- `LD (HL),L` (rule R133). -/
def execLd_atHL_l (s : State) : Result := .next (storeByte s.regs.hl s.regs.l 8 s)

/-- `LD (HL),A` (rule R133). -/
def execLd_atHL_a (s : State) : Result := .next (storeByte s.regs.hl s.regs.a 8 s)

/-- `LD A,(BC)` (rule R135). -/
def execLd_a_atBC (s : State) : Result := .next (loadByte .a s.regs.bc 8 s)

/-- `LD A,(DE)` (rule R136). -/
def execLd_a_atDE (s : State) : Result := .next (loadByte .a s.regs.de 8 s)

/-- `LD (BC),A` (rule R137). -/
def execLd_atBC_a (s : State) : Result := .next (storeByte s.regs.bc s.regs.a 8 s)

/-- `LD (DE),A` (rule R138). -/
def execLd_atDE_a (s : State) : Result := .next (storeByte s.regs.de s.regs.a 8 s)

/-- `LD A,(n16)` (rule R139). -/
def execLd_a_atN16 (n : Word) (s : State) : Result := .next (loadByte .a n 16 s)

/-- `LD (n16),A` (rule R140). -/
def execLd_atN16_a (n : Word) (s : State) : Result := .next (storeByte n s.regs.a 16 s)

/-- `LDH A,(n8)` (rule R141). -/
def execLdh_a_atN8 (n : Byte) (s : State) : Result := .next (loadByte .a (highPage n) 12 s)

/-- `LDH (n8),A` (rule R142). -/
def execLdh_atN8_a (n : Byte) (s : State) : Result := .next (storeByte (highPage n) s.regs.a 12 s)

/-- `LDH A,(C)` (rule R143). -/
def execLdh_a_atC (s : State) : Result := .next (loadByte .a (highPage s.regs.c) 8 s)

/-- `LDH (C),A` (rule R144). -/
def execLdh_atC_a (s : State) : Result := .next (storeByte (highPage s.regs.c) s.regs.a 8 s)

/-- `LD (HL+),A` (rule R145). -/
def execLd_atHLinc_a (s : State) : Result := .next ((storeByte s.regs.hl s.regs.a 8 s).setHL (s.regs.hl + 1))

/-- `LD A,(HL+)` (rule R146). -/
def execLd_a_atHLinc (s : State) : Result := .next ((loadByte .a s.regs.hl 8 s).setHL (s.regs.hl + 1))

/-- `LD (HL-),A` (rule R147). -/
def execLd_atHLdec_a (s : State) : Result := .next ((storeByte s.regs.hl s.regs.a 8 s).setHL (s.regs.hl - 1))

/-- `LD A,(HL-)` (rule R148). -/
def execLd_a_atHLdec (s : State) : Result := .next ((loadByte .a s.regs.hl 8 s).setHL (s.regs.hl - 1))

end Sys2Proof.Machine
end

