-- ==== Sys2Proof/Machine/Rotate.lean ====
section
/-! DEFINITION. Rotates and shifts (rules R220 to R239). -/

namespace Sys2Proof.Machine

/-- The one-byte rotates of A, which clear Z (rules R220 to R223). -/
def rotateA (op : RotOp) (s : State) : State :=
  let r := rotApply op s.regs.a (flagC s.regs.f)
  ((s.setReg .a r.1).setF (packFlags false false false r.2)).addCycles 4

/-- The rotates and shifts of the extended table (rules R224 to R239). -/
def rotateOpnd (op : RotOp) (o : Opnd) (s : State) : State :=
  let r := rotApply op (s.readOpnd o) (flagC s.regs.f)
  (((s.afterReadOpnd o).writeOpnd o r.1).setF (packFlags (r.1 == 0) false false r.2)).addCycles (8 + 2 * opndCost o)

/-- `RLCA` (rule R220). -/
def execRlca (s : State) : Result := .next (rotateA .rlc s)

/-- `RLA` (rule R221). -/
def execRla (s : State) : Result := .next (rotateA .rl s)

/-- `RRCA` (rule R222). -/
def execRrca (s : State) : Result := .next (rotateA .rrc s)

/-- `RRA` (rule R223). -/
def execRra (s : State) : Result := .next (rotateA .rr s)

/-- `RLC B` (rule R224). -/
def execRlc_b (s : State) : Result := .next (rotateOpnd .rlc (.reg .b) s)

/-- `RLC C` (rule R224). -/
def execRlc_c (s : State) : Result := .next (rotateOpnd .rlc (.reg .c) s)

/-- `RLC D` (rule R224). -/
def execRlc_d (s : State) : Result := .next (rotateOpnd .rlc (.reg .d) s)

/-- `RLC E` (rule R224). -/
def execRlc_e (s : State) : Result := .next (rotateOpnd .rlc (.reg .e) s)

/-- `RLC H` (rule R224). -/
def execRlc_h (s : State) : Result := .next (rotateOpnd .rlc (.reg .h) s)

/-- `RLC L` (rule R224). -/
def execRlc_l (s : State) : Result := .next (rotateOpnd .rlc (.reg .l) s)

/-- `RLC (HL)` (rule R225). -/
def execRlc_atHL (s : State) : Result := .next (rotateOpnd .rlc .atHL s)

/-- `RLC A` (rule R224). -/
def execRlc_a (s : State) : Result := .next (rotateOpnd .rlc (.reg .a) s)

/-- `RRC B` (rule R226). -/
def execRrc_b (s : State) : Result := .next (rotateOpnd .rrc (.reg .b) s)

/-- `RRC C` (rule R226). -/
def execRrc_c (s : State) : Result := .next (rotateOpnd .rrc (.reg .c) s)

/-- `RRC D` (rule R226). -/
def execRrc_d (s : State) : Result := .next (rotateOpnd .rrc (.reg .d) s)

/-- `RRC E` (rule R226). -/
def execRrc_e (s : State) : Result := .next (rotateOpnd .rrc (.reg .e) s)

/-- `RRC H` (rule R226). -/
def execRrc_h (s : State) : Result := .next (rotateOpnd .rrc (.reg .h) s)

/-- `RRC L` (rule R226). -/
def execRrc_l (s : State) : Result := .next (rotateOpnd .rrc (.reg .l) s)

/-- `RRC (HL)` (rule R227). -/
def execRrc_atHL (s : State) : Result := .next (rotateOpnd .rrc .atHL s)

/-- `RRC A` (rule R226). -/
def execRrc_a (s : State) : Result := .next (rotateOpnd .rrc (.reg .a) s)

/-- `RL B` (rule R228). -/
def execRl_b (s : State) : Result := .next (rotateOpnd .rl (.reg .b) s)

/-- `RL C` (rule R228). -/
def execRl_c (s : State) : Result := .next (rotateOpnd .rl (.reg .c) s)

/-- `RL D` (rule R228). -/
def execRl_d (s : State) : Result := .next (rotateOpnd .rl (.reg .d) s)

/-- `RL E` (rule R228). -/
def execRl_e (s : State) : Result := .next (rotateOpnd .rl (.reg .e) s)

/-- `RL H` (rule R228). -/
def execRl_h (s : State) : Result := .next (rotateOpnd .rl (.reg .h) s)

/-- `RL L` (rule R228). -/
def execRl_l (s : State) : Result := .next (rotateOpnd .rl (.reg .l) s)

/-- `RL (HL)` (rule R229). -/
def execRl_atHL (s : State) : Result := .next (rotateOpnd .rl .atHL s)

/-- `RL A` (rule R228). -/
def execRl_a (s : State) : Result := .next (rotateOpnd .rl (.reg .a) s)

/-- `RR B` (rule R230). -/
def execRr_b (s : State) : Result := .next (rotateOpnd .rr (.reg .b) s)

/-- `RR C` (rule R230). -/
def execRr_c (s : State) : Result := .next (rotateOpnd .rr (.reg .c) s)

/-- `RR D` (rule R230). -/
def execRr_d (s : State) : Result := .next (rotateOpnd .rr (.reg .d) s)

/-- `RR E` (rule R230). -/
def execRr_e (s : State) : Result := .next (rotateOpnd .rr (.reg .e) s)

/-- `RR H` (rule R230). -/
def execRr_h (s : State) : Result := .next (rotateOpnd .rr (.reg .h) s)

/-- `RR L` (rule R230). -/
def execRr_l (s : State) : Result := .next (rotateOpnd .rr (.reg .l) s)

/-- `RR (HL)` (rule R231). -/
def execRr_atHL (s : State) : Result := .next (rotateOpnd .rr .atHL s)

/-- `RR A` (rule R230). -/
def execRr_a (s : State) : Result := .next (rotateOpnd .rr (.reg .a) s)

/-- `SLA B` (rule R232). -/
def execSla_b (s : State) : Result := .next (rotateOpnd .sla (.reg .b) s)

/-- `SLA C` (rule R232). -/
def execSla_c (s : State) : Result := .next (rotateOpnd .sla (.reg .c) s)

/-- `SLA D` (rule R232). -/
def execSla_d (s : State) : Result := .next (rotateOpnd .sla (.reg .d) s)

/-- `SLA E` (rule R232). -/
def execSla_e (s : State) : Result := .next (rotateOpnd .sla (.reg .e) s)

/-- `SLA H` (rule R232). -/
def execSla_h (s : State) : Result := .next (rotateOpnd .sla (.reg .h) s)

/-- `SLA L` (rule R232). -/
def execSla_l (s : State) : Result := .next (rotateOpnd .sla (.reg .l) s)

/-- `SLA (HL)` (rule R233). -/
def execSla_atHL (s : State) : Result := .next (rotateOpnd .sla .atHL s)

/-- `SLA A` (rule R232). -/
def execSla_a (s : State) : Result := .next (rotateOpnd .sla (.reg .a) s)

/-- `SRA B` (rule R234). -/
def execSra_b (s : State) : Result := .next (rotateOpnd .sra (.reg .b) s)

/-- `SRA C` (rule R234). -/
def execSra_c (s : State) : Result := .next (rotateOpnd .sra (.reg .c) s)

/-- `SRA D` (rule R234). -/
def execSra_d (s : State) : Result := .next (rotateOpnd .sra (.reg .d) s)

/-- `SRA E` (rule R234). -/
def execSra_e (s : State) : Result := .next (rotateOpnd .sra (.reg .e) s)

/-- `SRA H` (rule R234). -/
def execSra_h (s : State) : Result := .next (rotateOpnd .sra (.reg .h) s)

/-- `SRA L` (rule R234). -/
def execSra_l (s : State) : Result := .next (rotateOpnd .sra (.reg .l) s)

/-- `SRA (HL)` (rule R235). -/
def execSra_atHL (s : State) : Result := .next (rotateOpnd .sra .atHL s)

/-- `SRA A` (rule R234). -/
def execSra_a (s : State) : Result := .next (rotateOpnd .sra (.reg .a) s)

/-- `SWAP B` (rule R236). -/
def execSwap_b (s : State) : Result := .next (rotateOpnd .swap (.reg .b) s)

/-- `SWAP C` (rule R236). -/
def execSwap_c (s : State) : Result := .next (rotateOpnd .swap (.reg .c) s)

/-- `SWAP D` (rule R236). -/
def execSwap_d (s : State) : Result := .next (rotateOpnd .swap (.reg .d) s)

/-- `SWAP E` (rule R236). -/
def execSwap_e (s : State) : Result := .next (rotateOpnd .swap (.reg .e) s)

/-- `SWAP H` (rule R236). -/
def execSwap_h (s : State) : Result := .next (rotateOpnd .swap (.reg .h) s)

/-- `SWAP L` (rule R236). -/
def execSwap_l (s : State) : Result := .next (rotateOpnd .swap (.reg .l) s)

/-- `SWAP (HL)` (rule R237). -/
def execSwap_atHL (s : State) : Result := .next (rotateOpnd .swap .atHL s)

/-- `SWAP A` (rule R236). -/
def execSwap_a (s : State) : Result := .next (rotateOpnd .swap (.reg .a) s)

/-- `SRL B` (rule R238). -/
def execSrl_b (s : State) : Result := .next (rotateOpnd .srl (.reg .b) s)

/-- `SRL C` (rule R238). -/
def execSrl_c (s : State) : Result := .next (rotateOpnd .srl (.reg .c) s)

/-- `SRL D` (rule R238). -/
def execSrl_d (s : State) : Result := .next (rotateOpnd .srl (.reg .d) s)

/-- `SRL E` (rule R238). -/
def execSrl_e (s : State) : Result := .next (rotateOpnd .srl (.reg .e) s)

/-- `SRL H` (rule R238). -/
def execSrl_h (s : State) : Result := .next (rotateOpnd .srl (.reg .h) s)

/-- `SRL L` (rule R238). -/
def execSrl_l (s : State) : Result := .next (rotateOpnd .srl (.reg .l) s)

/-- `SRL (HL)` (rule R239). -/
def execSrl_atHL (s : State) : Result := .next (rotateOpnd .srl .atHL s)

/-- `SRL A` (rule R238). -/
def execSrl_a (s : State) : Result := .next (rotateOpnd .srl (.reg .a) s)

end Sys2Proof.Machine
end

