-- ==== Sys2Proof/Machine/System.lean ====
section
/-! DEFINITION. CPU control and the unassigned opcodes (rules R275 to R281). -/

namespace Sys2Proof.Machine

/-- `NOP` (rule R275). -/
def execNop (s : State) : Result := .next (s.addCycles 4)

/-- `HALT` (rule R276). -/
def execHalt (s : State) : Result := .next (({ s with halted := true } : State).addCycles 4)

/-- `STOP` (rule R277). -/
def execStop (s : State) : Result := .next (s.addCycles 4)

/-- `DI` (rule R278). -/
def execDi (s : State) : Result := .next (({ s with ime := false } : State).addCycles 4)

/-- `EI` (rule R279). -/
def execEi (s : State) : Result := .next (({ s with ime := true } : State).addCycles 4)

/-- `ILLEGAL_D3` (rule R281). -/
def execIllegal_d3 (s : State) : Result := .next (s.raiseInvalidOpcode 0xD3)

/-- `ILLEGAL_DB` (rule R281). -/
def execIllegal_db (s : State) : Result := .next (s.raiseInvalidOpcode 0xDB)

/-- `ILLEGAL_DD` (rule R281). -/
def execIllegal_dd (s : State) : Result := .next (s.raiseInvalidOpcode 0xDD)

/-- `ILLEGAL_E3` (rule R281). -/
def execIllegal_e3 (s : State) : Result := .next (s.raiseInvalidOpcode 0xE3)

/-- `ILLEGAL_E4` (rule R281). -/
def execIllegal_e4 (s : State) : Result := .next (s.raiseInvalidOpcode 0xE4)

/-- `ILLEGAL_EB` (rule R281). -/
def execIllegal_eb (s : State) : Result := .next (s.raiseInvalidOpcode 0xEB)

/-- `ILLEGAL_EC` (rule R281). -/
def execIllegal_ec (s : State) : Result := .next (s.raiseInvalidOpcode 0xEC)

/-- `ILLEGAL_ED` (rule R281). -/
def execIllegal_ed (s : State) : Result := .next (s.raiseInvalidOpcode 0xED)

/-- `ILLEGAL_F4` (rule R281). -/
def execIllegal_f4 (s : State) : Result := .next (s.raiseInvalidOpcode 0xF4)

/-- `ILLEGAL_FC` (rule R281). -/
def execIllegal_fc (s : State) : Result := .next (s.raiseInvalidOpcode 0xFC)

/-- `ILLEGAL_FD` (rule R281). -/
def execIllegal_fd (s : State) : Result := .next (s.raiseInvalidOpcode 0xFD)

end Sys2Proof.Machine
end

