-- ==== Sys2Proof/Machine/Step.lean ====
section
/-! DEFINITION. One step of the machine (rule R6), and where its next instruction is fetched from. -/

namespace Sys2Proof.Machine

/-- What precedes the fetch: the host's turn, then the step's cost set to zero and the interrupt check (rules R6, R7). -/
def State.beginStep (s : State) : State :=
  State.interruptDispatch { s.hostTurn with cycles := 0 }

/-- What follows the instruction: its cost passed, in order, to the display, the timer and audio, and added to the total
(rule R6). -/
def State.finishStep (s : State) : State :=
  let c := s.cycles
  let s' := ((s.displayUpdate c).timerUpdate c).audioUpdate c
  { s' with totalCycles := s'.totalCycles + c, cycles := 0 }

/-- The step of a state that has begun: a halted no-op of 4 cycles, or one instruction. An instruction that has recorded the
fatal fault ends the step at once: no update is called (rule R431). -/
def stepBody (s : State) : Result :=
  if s.halted then .next (s.addCycles 4).finishStep
  else
    match exec s.fetchInstr.1 s.fetchInstr.2 with
    | .next t => if t.fault.isSome then .next t else .next t.finishStep
    | .fault r => .fault r
    | .refused r => .refused r

/-- One step (rule R6). A state with the fatal fault recorded has none: the fault is reported (rules R30, R431). -/
def step (s : State) : Host.Outcome State Fault Refusal :=
  match s.fault with
  | some r => .fault r
  | none => stepBody s.beginStep

/-- Put a byte where the CPU read path finds it: in the firmware image under the overlay, else in the storage that owns the
address. An address that holds no storage is left as it is. -/
def State.placeByte (s : State) (a : Word) (v : Byte) : State :=
  if s.bootActive = true ∧ a.toNat ≤ 0x00FF then
    { s with params := { s.params with bootRom := s.params.bootRom.write a.toNat v } }
  else
    match region a with
    | .rom => { s with params := { s.params with rom := s.params.rom.write (romOffset s.params s.mbc a.toNat) v } }
    | .audio => s
    | _ => s.busWrite a v

/-- Put consecutive bytes from an address on. -/
def State.placeBytes : List Byte → Word → State → State
  | [], _, s => s
  | v :: rest, a, s => State.placeBytes rest (a + 1) (s.placeByte a v)

/-- The state with the instruction of a table word (Decode.lean, `tableBytes`) stored where `step` fetches its next
instruction, and able to fetch it: not halted, no fault (log entry 11). -/
def State.withFetchWord (s : State) (nbits w : Nat) : State :=
  let s' := { s with halted := false, fault := none }
  State.placeBytes (tableBytes nbits w) s'.beginStep.regs.pc s'

end Sys2Proof.Machine
end

