-- ==== Sys2Proof/Machine/Reset.lean ====
section
/-! DEFINITION. Power-on with the parameters the host supplies (rules R8, R44, R470); `State.reset` is its value at the defaults. -/

namespace Sys2Proof.Machine

/-- The machine at power-on with parameters `p` and initial contents `im` (rule R44): the variant is selected by `CART_TYPE`,
and a type 2 cartridge keeps the low nibbles of `CART_RAM_INIT`. -/
def State.resetWith (p : Params) (im : InitImages) : State :=
  { State.reset with
    params := p
    mbc := Mbc.initial (variantOf p.cartType)
    wram := im.wram
    hram := im.hram
    display := { State.reset.display with vram := im.vram, oam := im.oam }
    cram := if variantOf p.cartType = .type2 then im.cartRam.lowNibbles else im.cartRam }

end Sys2Proof.Machine
end

