-- ==== Sys2Proof/Safety.lean ====
section
/-! DEFINITION. The terms claims use: operand codes, the state invariant, what an access leaves alone, the shapes in which an
instruction completes, and the classes of instructions that may write a flag or IME. -/

namespace Sys2Proof

/-! Operand codes, as the encoding rules number them (rules R104 to R108). -/

/-- The code of a register (rule R104). -/
def R8.code : R8 → Byte
  | .b => 0
  | .c => 1
  | .d => 2
  | .e => 3
  | .h => 4
  | .l => 5
  | .a => 7

/-- The code of an 8-bit operand; 6 is the byte at HL (rule R104). -/
def Opnd.code : Opnd → Byte
  | .reg r => r.code
  | .atHL => 6

/-- The code of a pair of group 1 (rule R105). -/
def R16.code : R16 → Byte
  | .bc => 0
  | .de => 1
  | .hl => 2
  | .sp => 3

/-- The code of a pair of group 2 (rule R105). -/
def StackPair.code : StackPair → Byte
  | .bc => 0
  | .de => 1
  | .hl => 2
  | .af => 3

/-- The code of a condition (rule R106). -/
def Cond.code : Cond → Byte
  | .nz => 0
  | .z => 1
  | .nc => 2
  | .c => 3

/-- The code of a rotate or shift (rule R108). -/
def RotOp.code : RotOp → Byte
  | .rlc => 0
  | .rrc => 1
  | .rl => 2
  | .rr => 3
  | .sla => 4
  | .sra => 5
  | .swap => 6
  | .srl => 7

/-! Classes of instructions. -/

/-- The instructions that may write a flag: every row but the last of rule R25's table. -/
def Instr.writesFlags (i : Instr) : Prop :=
  (∃ op o, i = Instr.alu op o) ∨ (∃ op n, i = Instr.aluImm op n) ∨ (∃ o, i = Instr.inc o) ∨ (∃ o, i = Instr.dec o) ∨
    i = .daa ∨ i = .cpl ∨ i = .scf ∨ i = .ccf ∨ (∃ p, i = Instr.addHL p) ∨ (∃ e, i = .add_sp_e8 e) ∨
    (∃ e, i = .ld_hl_spE8 e) ∨ i = .rlca ∨ i = .rla ∨ i = .rrca ∨ i = .rra ∨ (∃ op o, i = Instr.rot op o) ∨
    (∃ b o, i = Instr.bit b o) ∨ i = .pop_af

/-- The instructions that write IME (rule R27). -/
def Instr.writesIME (i : Instr) : Prop := i = .ei ∨ i = .di ∨ i = .reti

namespace Machine

/-! What holds of every state between steps. -/

/-- A ROM bank selector is never 0 (rules R354 (a), R365, R370, R375). -/
def Mbc.selectorsOk : Mbc → Bool
  | .romOnly => true
  | .type1 m => m.romBank5 != 0
  | .type2 m => m.romBank4 != 0
  | .type3 m => m.romBank7 != 0

/-- The cycles a mode lasts (rule R310). -/
def modeThreshold (m : BitVec 2) : Nat :=
  match m.toNat with
  | 0 => 204
  | 2 => 80
  | 3 => 172
  | _ => 456

/-- The lines a mode occurs on: 144 to 153 in VBlank, 0 to 143 else (rules R304, R313, R314). -/
def lineOk (m : BitVec 2) (ly : Byte) : Bool :=
  if m = 1 then decide (144 ≤ ly.toNat) && decide (ly.toNat ≤ 153) else decide (ly.toNat ≤ 143)

/-- The invariant of the machine between steps. -/
structure State.Inv (s : State) : Prop where
  /-- rule R22 -/
  flags : s.regs.f &&& 0x0F = 0
  /-- rule R26 -/
  cost : s.cycles = 0
  /-- rule R8 -/
  params : s.params.wellFormed = true
  /-- rule R40 -/
  variant : s.mbc.variant = variantOf s.params.cartType
  selectors : s.mbc.selectorsOk = true
  /-- rule R33 -/
  wram : s.wram.wf 0x2000 = true
  /-- rule R34 -/
  hram : s.hram.wf 0x7F = true
  /-- rule R36 -/
  vram : s.display.vram.wf 0x2000 = true
  /-- rule R36 -/
  oam : s.display.oam.wf 0xA0 = true
  /-- rules R353, R370 -/
  cram : s.cram.wf (ramSize s.params) = true
  /-- rule R370 -/
  nibbles : s.mbc.variant = .type2 → s.cram.nibblesOnly = true
  /-- rule R302 -/
  stat : s.display.stat &&& 0x80 = 0
  line : lineOk s.display.mode s.display.ly = true
  /-- rule R317 -/
  clock : s.display.modeClock < modeThreshold s.display.mode
  /-- rule R406 -/
  div : s.timer.divClock < 256
  tima : s.timer.timaClock < 1024

/-! What an access leaves alone. -/

/-- No byte is stored at this address: what is written there is discarded, or is an event or the boot lock (rules R67, R78,
R79, R304, R357). -/
def State.storesNothing (s : State) (x : Word) : Prop :=
  match region x with
  | .audio | .bootLock | .unmapped | .display .ly => True
  | .cartRam => ramTarget s.params s.mbc x.toNat = .nothing
  | _ => False

/-- Address `a` lies outside what a write to `x` reaches: another register, another byte of the same storage, and, for a
bank-controller register (rule R385), an address outside the two windows it remaps. -/
def State.outside (s : State) (x a : Word) : Prop :=
  s.storesNothing x ∨
    match region x with
    | .rom => a.toNat ≤ 0x3FFF ∨ (region a ≠ .rom ∧ region a ≠ .cartRam)
    | .cartRam => region a = .cartRam → ramTarget s.params s.mbc x.toNat ≠ ramTarget s.params s.mbc a.toNat
    | r => region a ≠ r

/-- Every address reads in `t` as in `s`; the audio range is no memory (rule R78). -/
def State.sameBytes (s t : State) : Prop := ∀ a, region a ≠ .audio → t.busRead a = s.busRead a

/-- Every address outside what writes to the addresses `stored` reach reads in `t` as in `s`. -/
def State.sameBytesBut (s t : State) (stored : List Word) : Prop :=
  ∀ a, region a ≠ .audio → (∀ x ∈ stored, s.outside x a) → t.busRead a = s.busRead a

/-! The shapes in which an instruction completes. In each, `exec` answers a next state; all of that state that is not named is
as before. -/

/-- Only the CPU registers and the cost change. -/
def RegisterOnly (i : Instr) (s : State) (r : Regs) (cost : Nat) : Prop :=
  ∃ t, exec i s = .next t ∧ t = { s with regs := r, cycles := s.cycles + cost } ∧ s.sameBytes t

/-- As `RegisterOnly`, after a data read at `ea`. -/
def ReadsAt (i : Instr) (s : State) (ea : Word) (r : Regs) (cost : Nat) : Prop :=
  ∃ t, exec i s = .next t ∧ t = { s.afterRead ea with regs := r, cycles := s.cycles + cost } ∧ s.sameBytes t

/-- One byte is stored at `ea`. -/
def StoresAt (i : Instr) (s : State) (ea : Word) (v : Byte) (r : Regs) (cost : Nat) : Prop :=
  ∃ t, exec i s = .next t ∧ t = { s.busWrite ea v with regs := r, cycles := s.cycles + cost } ∧ s.sameBytesBut t [ea]

/-- One byte is read at `ea`, then one stored there. -/
def ModifiesAt (i : Instr) (s : State) (ea : Word) (v : Byte) (r : Regs) (cost : Nat) : Prop :=
  ∃ t, exec i s = .next t ∧ t = { (s.afterRead ea).busWrite ea v with regs := r, cycles := s.cycles + cost } ∧
    s.sameBytesBut t [ea]

/-- The word `w` is stored below SP, its high byte first, and SP moves down by two (rule R154). -/
def PushesWord (i : Instr) (s : State) (w : Word) (pc : Word) (cost : Nat) : Prop :=
  ∃ t, exec i s = .next t ∧
    t = { (s.busWrite (s.regs.sp - 1) (hiByte w)).busWrite (s.regs.sp - 2) (loByte w) with
          regs := { s.regs with sp := s.regs.sp - 2, pc := pc }, cycles := s.cycles + cost } ∧
    s.sameBytesBut t [s.regs.sp - 1, s.regs.sp - 2]

/-- The word on top of the stack, its low byte at SP and its high byte at SP + 1 (rule R154). -/
def State.stackTop (s : State) : Word :=
  joinBytes ((s.afterRead s.regs.sp).memRead (s.regs.sp + 1)) (s.memRead s.regs.sp)

/-- The word on top of the stack is read and SP moves up by two; `r` gives the registers but SP. -/
def PopsWord (i : Instr) (s : State) (r : Regs) (ime : Bool) (cost : Nat) : Prop :=
  ∃ t, exec i s = .next t ∧
    t = { (s.afterRead s.regs.sp).afterRead (s.regs.sp + 1) with
          regs := { r with sp := s.regs.sp + 2 }, ime := ime, cycles := s.cycles + cost } ∧
    s.sameBytes t

/-- A register or (HL) operand becomes `v` and F becomes `f`; the (HL) form costs 8 more (rules R12, R196). -/
def ModifiesOpnd (i : Instr) (s : State) (o : Opnd) (v f : Byte) (cost : Nat) : Prop :=
  match o with
  | .reg q => RegisterOnly i s { s.regs.set q v with f := f } cost
  | .atHL => ModifiesAt i s s.regs.hl v { s.regs with f := f } (cost + 8)

/-- The registers become `r`, after reading the source operand; an immediate or (HL) source costs 4 more (rule R12). -/
def UsesSource (i : Instr) (s : State) (src : Source) (r : Regs) (cost : Nat) : Prop :=
  match src with
  | .opnd (.reg _) => RegisterOnly i s r cost
  | .opnd .atHL => ReadsAt i s s.regs.hl r (cost + 4)
  | .imm _ => RegisterOnly i s r (cost + 4)

/-- The four flags of a flag byte, whose low nibble is zero (rules R22, R25). -/
def FlagsAre (f : Byte) (z n h c : Bool) : Prop :=
  flagZ f = z ∧ flagN f = n ∧ flagH f = h ∧ flagC f = c ∧ f &&& 0x0F = 0

/-- The accumulator operation `op` on a source. -/
def aluOn (op : AluOp) : Source → Instr
  | .opnd o => Instr.alu op o
  | .imm n => Instr.aluImm op n

/-- The bytes of an accumulator operation: `0x80 | y<<3 | z`, or `0xC6 | y<<3` and n8 (rule R107). -/
def aluBytes (base : Byte) : Source → List Byte
  | .opnd o => [0x80 ||| base ||| o.code]
  | .imm n => [0xC6 ||| base, n]

/-! The unassigned opcodes. -/

/-- The eleven unassigned entries of the primary map (rule R114). -/
def unassignedOpcodes : List Byte := [0xD3, 0xDB, 0xDD, 0xE3, 0xE4, 0xEB, 0xEC, 0xED, 0xF4, 0xFC, 0xFD]

/-! Storage, and the firmware. -/

/-- Plain storage the bus or the display owns (rules R69, R71, R74): a read returns the byte last written. -/
def Region.isRam : Region → Bool
  | .vram _ | .wram _ | .oam _ | .hram _ => true
  | _ => false

/-- The storage for which rule R154 gives the round-trip law: WRAM, echo, HRAM, VRAM, OAM, IE, IF, and enabled cartridge RAM
of types 1 and 3. -/
def State.readsBack (s : State) (x : Word) : Prop :=
  match region x with
  | .vram _ | .wram _ | .oam _ | .hram _ | .intFlag | .intEnable => True
  | .cartRam => ∃ i, ramTarget s.params s.mbc x.toNat = .cell i
  | _ => False

/-- The machine with another firmware image. -/
def State.withFirmware (s : State) (m : Memory) : State := { s with params := { s.params with bootRom := m } }

/-- No owner (rule R79), 0xFF50 left aside. -/
def unmappedAddress (a : Nat) : Bool :=
  (decide (0xFEA0 ≤ a) && decide (a ≤ 0xFEFF)) || (decide (0xFF01 ≤ a) && decide (a ≤ 0xFF03)) ||
    (decide (0xFF08 ≤ a) && decide (a ≤ 0xFF0E)) || (decide (0xFF4C ≤ a) && decide (a ≤ 0xFF4F)) ||
    (decide (0xFF51 ≤ a) && decide (a ≤ 0xFF7F))

/-- The timing state machine runs (rules R301, R318). -/
def State.displayRuns (s : State) : Prop := s.params.lcdDisableGatesFsm = false ∨ s.display.lcdc.getLsbD 7 = true

/-! Reference forms of rules whose model is in closed form. -/

/-- The divider loop of rule R405, `fuel` bounding its turns. -/
def divLoop : Nat → Timer → Timer
  | 0, t => t
  | fuel + 1, t =>
    if 256 ≤ t.divClock then divLoop fuel { t with divClock := t.divClock - 256, div := t.div + 1 } else t

/-- The counter loop of rule R405, `fuel` bounding its turns. -/
def timaLoop : Nat → State → State
  | 0, s => s
  | fuel + 1, s =>
    let period := timaPeriod s.timer.tac
    if period ≤ s.timer.timaClock then
      let t : Timer := { s.timer with timaClock := s.timer.timaClock - period }
      if t.tima = (0xFF : Byte) then timaLoop fuel (State.raiseIRQ { s with timer := { t with tima := t.tma } } 2)
      else timaLoop fuel { s with timer := { t with tima := t.tima + 1 } }
    else s

/-- `Timer.Update(c)` with the loops of rule R405. -/
def timerLoops (s : State) (c : Nat) : State :=
  let t := divLoop (c + s.timer.divClock) { s.timer with divClock := s.timer.divClock + c }
  let s' := { s with timer := t }
  if s'.timer.tac.getLsbD 2 then
    timaLoop (c + s'.timer.timaClock) { s' with timer := { s'.timer with timaClock := s'.timer.timaClock + c } }
  else s'

/-- A packed decimal byte: both digits at most 9. -/
def isBcd (v : Byte) : Bool := decide (v.toNat % 16 ≤ 9) && decide (v.toNat / 16 ≤ 9)

/-- The number a packed decimal byte stands for. -/
def bcdValue (v : Byte) : Nat := v.toNat / 16 * 10 + v.toNat % 16

end Machine

/-- The initial contents a host may supply (rule R8): each image has its memory's length. -/
def InitImages.wellFormed (p : Params) (im : InitImages) : Bool :=
  im.wram.wf 0x2000 && im.hram.wf 0x7F && im.vram.wf 0x2000 && im.oam.wf 0xA0 && im.cartRam.wf (Machine.ramSize p)

end Sys2Proof
end

