-- ==== Sys2Proof/Certificates/Slice0/Obligations.lean ====
section
/-! DEFINITION. The statements for the provers, in the order of the spec: encoding, the instruction families, the machine's
operations and devices, and the rules about every step. -/

open Sys2Proof Sys2Proof.Machine

/-! Encoding. -/

/-- At least one word of each block of the two opcode maps (rules R112, R113), written bit by bit, decodes to what it stands
for. -/
def Obligations.DecodesSpecWords : Prop :=
  decode [0b01_000_001] = .ok (.ld_b_c, []) ∧
  decode [0b01_110_110] = .ok (.halt, []) ∧
  decode [0b00_111_110, 0x7F] = .ok (.ld_a_n8 0x7F, []) ∧
  decode [0b00_100_001, 0x34, 0x12] = .ok (.ld_hl_n16 0x1234, []) ∧
  decode [0b10_011_110] = .ok (.sbc_a_atHL, []) ∧
  decode [0b11_111_110, 0x40] = .ok (.cp_n8 0x40, []) ∧
  decode [0b11_110_101] = .ok (.push_af, []) ∧
  decode [0b11_011_010, 0x23, 0xC1] = .ok (.jp_c_n16 0xC123, []) ∧
  decode [0b11_101_111] = .ok (.rst_28, []) ∧
  decode [0b11_010_011] = .ok (.illegal_d3, []) ∧
  decode [0xCB, 0b00_110_111] = .ok (.swap_a, []) ∧
  decode [0xCB, 0b01_110_110] = .ok (.bit_6_atHL, []) ∧
  decode [0xCB, 0b10_101_111] = .ok (.res_5_a, []) ∧
  decode [0xCB, 0b11_001_011] = .ok (.set_1_e, [])

/-- Decoding and encoding agree in both directions. No bit of an encoding is dropped: an instruction's bytes, whatever follows
them, decode to that instruction with every operand, and exactly its bytes are consumed (rules R100, R102, R109). Each word has
one meaning: what decodes to an instruction is that instruction's bytes. -/
def Obligations.DecodeEncodeRoundTrip : Prop :=
  (∀ (i : Instr) (rest : List Byte), decode (encode i ++ rest) = .ok (i, rest)) ∧
  (∀ (bytes : List Byte) (i : Instr) (rest : List Byte), decode bytes = .ok (i, rest) → bytes = encode i ++ rest)

/-- The first byte alone determines the length, 1 to 3 bytes, 2 after 0xCB (rule R100); an opcode decodes to an unassigned row
exactly if it is one of the eleven of rule R114, and no second byte does. -/
def Obligations.LengthsAndUnassigned : Prop :=
  (∃ len : Byte → Nat, (∀ b, 1 ≤ len b ∧ len b ≤ 3) ∧ len 0xCB = 2 ∧
    ∀ b0 b1 b2 rest, ∃ i, decode (b0 :: b1 :: b2 :: rest) = .ok (i, (b0 :: b1 :: b2 :: rest).drop (len b0))) ∧
  (∀ (b : Byte) (rest : List Byte),
    b ∈ unassignedOpcodes ↔ ∃ u, decode (b :: rest) = .ok (Instr.illegal u, rest) ∧ u.opcode = b) ∧
  (∀ (op2 : Byte) (u : Unassigned), extended op2 ≠ Instr.illegal u)

/-- A step (rule R6, with the host's turn of rule R7 before it, which may stand between any two steps by the spec's decision D33,
log entry 5). A recorded fault is reported. Else the cost is set to zero and the interrupt check runs; a halted machine is charged
4 cycles; otherwise the instruction that the bytes at PC decode to runs, with PC past its bytes. The cost is passed to the
display, the timer and audio in this order and added to the total; an instruction that records the fatal fault (decision D17) ends
the step without that. Bytes are fetched one by one at PC, so that in the audio range each is a fresh free value (log entry 3);
elsewhere fetching changes PC only. The host's turn takes the head of its queue and delivers the event it finds there (rule R418).
The audio update appends one tick and changes nothing else (rule R422, log entry 7). -/
def Obligations.StepRunsDecoded : Prop :=
  (∀ s : State,
    s.fetch8 = (s.memRead s.regs.pc,
      { s.afterRead s.regs.pc with regs := { s.regs with pc := s.regs.pc + 1 } }) ∧
    (s.hostInputs = [] → s.hostTurn = s) ∧
    (∀ rest, s.hostInputs = none :: rest → s.hostTurn = { s with hostInputs := rest }) ∧
    (∀ n rest, s.hostInputs = some n :: rest → s.hostTurn = State.setButtons { s with hostInputs := rest } n) ∧
    ∀ c, s.audioUpdate c = { s with events := s.events ++ [.audioTick c] }) ∧
  ∀ s : State,
    let b := State.interruptDispatch { s.hostTurn with cycles := 0 }
    let finish := fun t : State =>
      let u := ((t.displayUpdate t.cycles).timerUpdate t.cycles).audioUpdate t.cycles
      ({ u with totalCycles := u.totalCycles + t.cycles, cycles := 0 } : State)
    let f0 := b.fetch8
    let f1 := f0.2.fetch8
    let f2 := f1.2.fetch8
    (∀ r, s.fault = some r → step s = .fault r) ∧
    (s.fault = none → b.halted = true → step s = .next (finish { b with cycles := b.cycles + 4 })) ∧
    (∀ i rest, s.fault = none → b.halted = false → decode [f0.1, f1.1, f2.1] = .ok (i, rest) →
      ∃ f, (rest.length = 2 ∧ f = f0.2 ∨ rest.length = 1 ∧ f = f1.2 ∨ rest.length = 0 ∧ f = f2.2) ∧
        f.regs = { b.regs with pc := b.regs.pc + BitVec.ofNat 16 (encode i).length } ∧
        ((∀ k : Fin 3, region (b.regs.pc + BitVec.ofNat 16 k.val) ≠ .audio) → f = { b with regs := f.regs }) ∧
        step s =
          match exec i f with
          | .next t => if t.fault = none then .next (finish t) else .next t
          | .fault r => .fault r
          | .refused r => .refused r)

/-! 8-bit loads. -/

/-- `LD r,r'`, all 49, `LD r,n8` and `LD (HL),n8` (rules R130, R131, R134). -/
def Obligations.LoadRegisterAndImmediate : Prop :=
  ∀ (s : State) (n : Byte),
    (∀ dst src : R8, encode (Instr.ldRegReg dst src) = [0x40 ||| dst.code <<< 3 ||| src.code] ∧
      RegisterOnly (Instr.ldRegReg dst src) s (s.regs.set dst (s.regs.get src)) 4) ∧
    (∀ r : R8, encode (Instr.ldImm (.reg r) n) = [0x06 ||| r.code <<< 3, n] ∧
      RegisterOnly (Instr.ldImm (.reg r) n) s (s.regs.set r n) 8) ∧
    encode (Instr.ldImm .atHL n) = [0x36, n] ∧ StoresAt (Instr.ldImm .atHL n) s s.regs.hl n s.regs 12

/-- The loads of one byte from memory (rules R132, R135, R136, R139, R141, R143): the register receives what the CPU reads at
the effective address. -/
def Obligations.LoadFromMemory : Prop :=
  ∀ (s : State) (n : Byte) (w : Word),
    (∀ r : R8, encode (Instr.ldRegMem r) = [0x46 ||| r.code <<< 3] ∧
      ReadsAt (Instr.ldRegMem r) s s.regs.hl (s.regs.set r (s.memRead s.regs.hl)) 8) ∧
    encode .ld_a_atBC = [0x0A] ∧ ReadsAt .ld_a_atBC s s.regs.bc { s.regs with a := s.memRead s.regs.bc } 8 ∧
    encode .ld_a_atDE = [0x1A] ∧ ReadsAt .ld_a_atDE s s.regs.de { s.regs with a := s.memRead s.regs.de } 8 ∧
    encode (.ld_a_atN16 w) = [0xFA, loByte w, hiByte w] ∧ ReadsAt (.ld_a_atN16 w) s w { s.regs with a := s.memRead w } 16 ∧
    encode (.ldh_a_atN8 n) = [0xF0, n] ∧
    ReadsAt (.ldh_a_atN8 n) s (0xFF00 + n.setWidth 16) { s.regs with a := s.memRead (0xFF00 + n.setWidth 16) } 12 ∧
    encode .ldh_a_atC = [0xF2] ∧
    ReadsAt .ldh_a_atC s (0xFF00 + s.regs.c.setWidth 16) { s.regs with a := s.memRead (0xFF00 + s.regs.c.setWidth 16) } 8

/-- The stores of one register (rules R133, R137, R138, R140, R142, R144): the byte goes to the effective address, no register
changes, and every address that the store does not reach reads as before. -/
def Obligations.StoreToMemory : Prop :=
  ∀ (s : State) (n : Byte) (w : Word),
    (∀ r : R8, encode (Instr.ldMemReg r) = [0x70 ||| r.code] ∧
      StoresAt (Instr.ldMemReg r) s s.regs.hl (s.regs.get r) s.regs 8) ∧
    encode .ld_atBC_a = [0x02] ∧ StoresAt .ld_atBC_a s s.regs.bc s.regs.a s.regs 8 ∧
    encode .ld_atDE_a = [0x12] ∧ StoresAt .ld_atDE_a s s.regs.de s.regs.a s.regs 8 ∧
    encode (.ld_atN16_a w) = [0xEA, loByte w, hiByte w] ∧ StoresAt (.ld_atN16_a w) s w s.regs.a s.regs 16 ∧
    encode (.ldh_atN8_a n) = [0xE0, n] ∧ StoresAt (.ldh_atN8_a n) s (0xFF00 + n.setWidth 16) s.regs.a s.regs 12 ∧
    encode .ldh_atC_a = [0xE2] ∧ StoresAt .ldh_atC_a s (0xFF00 + s.regs.c.setWidth 16) s.regs.a s.regs 8

/-- `LD (HL+),A`, `LD A,(HL+)`, `LD (HL-),A`, `LD A,(HL-)` (rules R145 to R148): HL moves by one, modulo 65536, after the
access, and no flag is written. -/
def Obligations.LoadStorePostModify : Prop :=
  ∀ s : State,
    encode .ld_atHLinc_a = [0x22] ∧ StoresAt .ld_atHLinc_a s s.regs.hl s.regs.a (s.regs.setHL (s.regs.hl + 1)) 8 ∧
    encode .ld_a_atHLinc = [0x2A] ∧
    ReadsAt .ld_a_atHLinc s s.regs.hl { s.regs.setHL (s.regs.hl + 1) with a := s.memRead s.regs.hl } 8 ∧
    encode .ld_atHLdec_a = [0x32] ∧ StoresAt .ld_atHLdec_a s s.regs.hl s.regs.a (s.regs.setHL (s.regs.hl - 1)) 8 ∧
    encode .ld_a_atHLdec = [0x3A] ∧
    ReadsAt .ld_a_atHLdec s s.regs.hl { s.regs.setHL (s.regs.hl - 1) with a := s.memRead s.regs.hl } 8

/-! 16-bit loads and the stack. -/

/-- `LD rr,n16` and `LD SP,HL` (rules R155, R157): writing a pair writes both halves. -/
def Obligations.LoadPairs : Prop :=
  ∀ (s : State) (w : Word),
    (∀ p : R16, encode (Instr.ldPair p w) = [0x01 ||| p.code <<< 4, loByte w, hiByte w]) ∧
    RegisterOnly (Instr.ldPair .bc w) s { s.regs with b := hiByte w, c := loByte w } 12 ∧
    RegisterOnly (Instr.ldPair .de w) s { s.regs with d := hiByte w, e := loByte w } 12 ∧
    RegisterOnly (Instr.ldPair .hl w) s { s.regs with h := hiByte w, l := loByte w } 12 ∧
    RegisterOnly (Instr.ldPair .sp w) s { s.regs with sp := w } 12 ∧
    encode .ld_sp_hl = [0xF9] ∧ RegisterOnly .ld_sp_hl s { s.regs with sp := s.regs.h ++ s.regs.l } 8

/-- `LD (n16),SP` (rule R156): the low byte at n16, then the high byte at n16 + 1 modulo 65536; SP is unchanged. -/
def Obligations.StoreStackPointer : Prop :=
  ∀ (s : State) (w : Word),
    encode (.ld_atN16_sp w) = [0x08, loByte w, hiByte w] ∧
    ∃ t, exec (.ld_atN16_sp w) s = .next t ∧
      t = { (s.busWrite w (loByte s.regs.sp)).busWrite (w + 1) (hiByte s.regs.sp) with
            regs := s.regs, cycles := s.cycles + 20 } ∧
      s.sameBytesBut t [w, w + 1]

/-- `PUSH rr` and `POP rr` (rules R159, R160): the high register at SP - 1, the low register at SP - 2. -/
def Obligations.PushAndPop : Prop :=
  ∀ s : State,
    (∀ p : StackPair, encode (Instr.push p) = [0xC5 ||| p.code <<< 4] ∧ encode (Instr.pop p) = [0xC1 ||| p.code <<< 4]) ∧
    PushesWord (Instr.push .bc) s (s.regs.b ++ s.regs.c) s.regs.pc 16 ∧
    PushesWord (Instr.push .de) s (s.regs.d ++ s.regs.e) s.regs.pc 16 ∧
    PushesWord (Instr.push .hl) s (s.regs.h ++ s.regs.l) s.regs.pc 16 ∧
    PushesWord (Instr.push .af) s (s.regs.a ++ s.regs.f) s.regs.pc 16 ∧
    PopsWord (Instr.pop .bc) s { s.regs with b := hiByte s.stackTop, c := loByte s.stackTop } s.ime 12 ∧
    PopsWord (Instr.pop .de) s { s.regs with d := hiByte s.stackTop, e := loByte s.stackTop } s.ime 12 ∧
    PopsWord (Instr.pop .hl) s { s.regs with h := hiByte s.stackTop, l := loByte s.stackTop } s.ime 12

/-- `POP AF` (rule R161; the masking is the spec's decision D44): all four flags come from the popped low byte, whose bits 3 to
0 are dropped. -/
def Obligations.PopAF : Prop :=
  ∀ s : State, encode .pop_af = [0xF1] ∧
    ∃ f, FlagsAre f ((loByte s.stackTop).getLsbD 7) ((loByte s.stackTop).getLsbD 6) ((loByte s.stackTop).getLsbD 5)
        ((loByte s.stackTop).getLsbD 4) ∧
      PopsWord .pop_af s { s.regs with a := hiByte s.stackTop, f := f } s.ime 12

/-- The stack primitives and their round-trip law (rule R154): on storage that reads back what was written, a pop after a push
returns the word, and SP and every other register are as before. -/
def Obligations.PushThenPop : Prop :=
  (∀ (s : State) (w : Word),
    s.push16 w =
      { (s.busWrite (s.regs.sp - 1) (hiByte w)).busWrite (s.regs.sp - 2) (loByte w) with
        regs := { s.regs with sp := s.regs.sp - 2 } }) ∧
  (∀ s : State,
    s.pop16 = (s.stackTop,
      { (s.afterRead s.regs.sp).afterRead (s.regs.sp + 1) with regs := { s.regs with sp := s.regs.sp + 2 } })) ∧
  (∀ (s : State) (w : Word), s.readsBack (s.regs.sp - 1) → s.readsBack (s.regs.sp - 2) →
    (s.push16 w).pop16.1 = w ∧ (s.push16 w).pop16.2.regs = s.regs) ∧
  (∀ (s : State) (p : StackPair), s.regs.f &&& 0x0F = 0 → s.readsBack (s.regs.sp - 1) → s.readsBack (s.regs.sp - 2) →
    ∃ t u, exec (Instr.push p) s = .next t ∧ exec (Instr.pop p) t = .next u ∧ u.regs = s.regs)

/-! 8-bit arithmetic and logic. -/

/-- `ADD A` and `ADC A` on a register, the byte at HL or n8 (rules R171 to R176). -/
def Obligations.AddAdc : Prop :=
  ∀ (s : State) (src : Source),
    let a := s.regs.a.toNat
    let v := (s.readSource src).toNat
    let ci : Nat := if s.regs.f.getLsbD 4 then 1 else 0
    encode (aluOn .add src) = aluBytes 0x00 src ∧ encode (aluOn .adc src) = aluBytes 0x08 src ∧
    (∃ f, FlagsAre f (decide ((a + v) % 256 = 0)) false (decide (a % 16 + v % 16 > 15)) (decide (a + v > 255)) ∧
      UsesSource (aluOn .add src) s src { s.regs with a := BitVec.ofNat 8 (a + v), f := f } 4) ∧
    (∃ f, FlagsAre f (decide ((a + v + ci) % 256 = 0)) false (decide (a % 16 + v % 16 + ci > 15))
        (decide (a + v + ci > 255)) ∧
      UsesSource (aluOn .adc src) s src { s.regs with a := BitVec.ofNat 8 (a + v + ci), f := f } 4)

/-- `SUB`, `SBC A` and `CP` on a register, the byte at HL or n8 (rules R177 to R182, R192 to R194): differences modulo 256 of
integers; `CP` leaves A. -/
def Obligations.SubSbcCp : Prop :=
  ∀ (s : State) (src : Source),
    let a := s.regs.a.toNat
    let v := (s.readSource src).toNat
    let ci : Nat := if s.regs.f.getLsbD 4 then 1 else 0
    encode (aluOn .sub src) = aluBytes 0x10 src ∧ encode (aluOn .sbc src) = aluBytes 0x18 src ∧
    encode (aluOn .cp src) = aluBytes 0x38 src ∧
    (∃ f, FlagsAre f (decide (a = v)) true (decide (a % 16 < v % 16)) (decide (a < v)) ∧
      UsesSource (aluOn .sub src) s src { s.regs with a := BitVec.ofInt 8 ((a : Int) - v), f := f } 4 ∧
      UsesSource (aluOn .cp src) s src { s.regs with f := f } 4) ∧
    (∃ f, FlagsAre f (decide (((a : Int) - v - ci) % 256 = 0)) true (decide (a % 16 < v % 16 + ci)) (decide (a < v + ci)) ∧
      UsesSource (aluOn .sbc src) s src { s.regs with a := BitVec.ofInt 8 ((a : Int) - v - ci), f := f } 4)

/-- `AND`, `XOR` and `OR` on a register, the byte at HL or n8 (rules R183 to R191): `AND` sets the half-carry, the others clear
it. -/
def Obligations.AndXorOr : Prop :=
  ∀ (s : State) (src : Source),
    let v := s.readSource src
    encode (aluOn .and src) = aluBytes 0x20 src ∧ encode (aluOn .xor src) = aluBytes 0x28 src ∧
    encode (aluOn .or src) = aluBytes 0x30 src ∧
    (∃ f, FlagsAre f (decide (s.regs.a &&& v = 0)) false true false ∧
      UsesSource (aluOn .and src) s src { s.regs with a := s.regs.a &&& v, f := f } 4) ∧
    (∃ f, FlagsAre f (decide (s.regs.a = v)) false false false ∧
      UsesSource (aluOn .xor src) s src { s.regs with a := s.regs.a ^^^ v, f := f } 4) ∧
    (∃ f, FlagsAre f (decide (s.regs.a = 0 ∧ v = 0)) false false false ∧
      UsesSource (aluOn .or src) s src { s.regs with a := s.regs.a ||| v, f := f } 4)

/-- `INC` and `DEC` of a register or the byte at HL (rules R195 to R198): the carry keeps its value. -/
def Obligations.IncDec8 : Prop :=
  ∀ (s : State) (o : Opnd),
    let v := (s.readOpnd o).toNat
    encode (Instr.inc o) = [0x04 ||| o.code <<< 3] ∧ encode (Instr.dec o) = [0x05 ||| o.code <<< 3] ∧
    (∃ f, FlagsAre f (decide (v = 255)) false (decide (v % 16 = 15)) (s.regs.f.getLsbD 4) ∧
      ModifiesOpnd (Instr.inc o) s o (BitVec.ofNat 8 (v + 1)) f 4) ∧
    (∃ f, FlagsAre f (decide (v = 1)) true (decide (v % 16 = 0)) (s.regs.f.getLsbD 4) ∧
      ModifiesOpnd (Instr.dec o) s o (BitVec.ofNat 8 (v + 255)) f 4)

/-- `DAA` (rule R199): the correction depends on A and on N, Hf, Cf as they were; N is unchanged, the half-carry cleared, and
the carry never goes from 1 to 0. -/
def Obligations.DecimalAdjust : Prop :=
  ∀ s : State,
    let a := s.regs.a.toNat
    let n := s.regs.f.getLsbD 6
    let low := s.regs.f.getLsbD 5 || (!n && decide (a % 16 > 0x09))
    let high := s.regs.f.getLsbD 4 || (!n && decide (a > 0x99))
    let corr : Nat := (if low then 0x06 else 0x00) + (if high then 0x60 else 0x00)
    let r := if n then (a + 256 - corr) % 256 else (a + corr) % 256
    encode .daa = [0x27] ∧
    ∃ f, FlagsAre f (decide (r = 0)) n false high ∧
      RegisterOnly .daa s { s.regs with a := BitVec.ofNat 8 r, f := f } 4

/-- What `DAA` is for (rule R199): after adding or subtracting two packed decimal bytes it leaves the packed decimal sum or
difference modulo 100, with the carry telling that the sum reached 100 or the difference fell below 0. -/
def Obligations.DecimalArithmetic : Prop :=
  ∀ (s : State) (n : Byte), isBcd s.regs.a = true → isBcd n = true →
    (∃ t u, exec (.add_a_n8 n) s = .next t ∧ exec .daa t = .next u ∧ isBcd u.regs.a = true ∧
      bcdValue u.regs.a = (bcdValue s.regs.a + bcdValue n) % 100 ∧
      u.regs.f.getLsbD 4 = decide (bcdValue s.regs.a + bcdValue n ≥ 100)) ∧
    (∃ t u, exec (.sub_n8 n) s = .next t ∧ exec .daa t = .next u ∧ isBcd u.regs.a = true ∧
      bcdValue u.regs.a = (bcdValue s.regs.a + 100 - bcdValue n) % 100 ∧
      u.regs.f.getLsbD 4 = decide (bcdValue s.regs.a < bcdValue n))

/-- `CPL`, `SCF`, `CCF` (rules R200 to R202). -/
def Obligations.ComplementAndCarry : Prop :=
  ∀ s : State,
    let z := s.regs.f.getLsbD 7
    let c := s.regs.f.getLsbD 4
    encode .cpl = [0x2F] ∧ encode .scf = [0x37] ∧ encode .ccf = [0x3F] ∧
    (∃ f, FlagsAre f z true true c ∧ RegisterOnly .cpl s { s.regs with a := BitVec.ofNat 8 (255 - s.regs.a.toNat), f := f } 4) ∧
    (∃ f, FlagsAre f z false false true ∧ RegisterOnly .scf s { s.regs with f := f } 4) ∧
    (∃ f, FlagsAre f z false false (!c) ∧ RegisterOnly .ccf s { s.regs with f := f } 4)

/-! 16-bit arithmetic. -/

/-- `ADD HL,rr` (rules R209, R210; that the half-carry is the carry out of bit 3 is the spec's decision D15): Z keeps its
value, and the carry is the one out of bit 15. -/
def Obligations.AddHL : Prop :=
  ∀ (s : State) (p : R16),
    let x := (s.regs.h ++ s.regs.l).toNat
    let y := (s.regs.getPair p).toNat
    encode (Instr.addHL p) = [0x09 ||| p.code <<< 4] ∧
    ∃ f, FlagsAre f (s.regs.f.getLsbD 7) false (decide (x % 16 + y % 16 > 15)) (decide (x + y > 65535)) ∧
      RegisterOnly (Instr.addHL p) s
        { s.regs with h := BitVec.ofNat 8 ((x + y) / 256), l := BitVec.ofNat 8 (x + y), f := f } 8

/-- `ADD SP,e8` and `LD HL,SP+e8` (rules R158, R211; the flag rule for negative operands is the spec's decision D16): the
operand is added as a signed number, and the carries are those of adding its raw byte to the low byte of SP. -/
def Obligations.StackPointerOffset : Prop :=
  ∀ (s : State) (e : Byte),
    let sp := s.regs.sp.toNat
    let sum := BitVec.ofInt 16 ((sp : Int) + e.toInt)
    encode (.add_sp_e8 e) = [0xE8, e] ∧ encode (.ld_hl_spE8 e) = [0xF8, e] ∧
    ∃ f, FlagsAre f false false (decide (sp % 16 + e.toNat % 16 > 15)) (decide (sp % 256 + e.toNat > 255)) ∧
      RegisterOnly (.add_sp_e8 e) s { s.regs with sp := sum, f := f } 16 ∧
      RegisterOnly (.ld_hl_spE8 e) s { s.regs with h := hiByte sum, l := loByte sum, f := f } 12

/-- `INC rr` and `DEC rr` (rules R212, R213): modulo 65536, the carry running from the low register into the high one, and no
flag written. -/
def Obligations.IncDec16 : Prop :=
  ∀ (s : State) (p : R16),
    encode (Instr.incPair p) = [0x03 ||| p.code <<< 4] ∧ encode (Instr.decPair p) = [0x0B ||| p.code <<< 4] ∧
    (∃ r : Regs, (r.getPair p).toNat = ((s.regs.getPair p).toNat + 1) % 65536 ∧
      (∀ q, q ≠ p → r.getPair q = s.regs.getPair q) ∧ r.a = s.regs.a ∧ r.f = s.regs.f ∧ r.pc = s.regs.pc ∧
      RegisterOnly (Instr.incPair p) s r 8) ∧
    (∃ r : Regs, (r.getPair p).toNat = ((s.regs.getPair p).toNat + 65535) % 65536 ∧
      (∀ q, q ≠ p → r.getPair q = s.regs.getPair q) ∧ r.a = s.regs.a ∧ r.f = s.regs.f ∧ r.pc = s.regs.pc ∧
      RegisterOnly (Instr.decPair p) s r 8)

/-! Rotates, shifts and bits. -/

/-- The one-byte rotates of A (rules R220 to R223): Z is cleared even when the result is 0. -/
def Obligations.RotateA : Prop :=
  ∀ s : State,
    let a := s.regs.a.toNat
    let b7 := a / 128
    let b0 := a % 2
    let ci : Nat := if s.regs.f.getLsbD 4 then 1 else 0
    encode .rlca = [0x07] ∧ encode .rla = [0x17] ∧ encode .rrca = [0x0F] ∧ encode .rra = [0x1F] ∧
    (∃ f, FlagsAre f false false false (decide (b7 = 1)) ∧
      RegisterOnly .rlca s { s.regs with a := BitVec.ofNat 8 (a * 2 + b7), f := f } 4 ∧
      RegisterOnly .rla s { s.regs with a := BitVec.ofNat 8 (a * 2 + ci), f := f } 4) ∧
    (∃ f, FlagsAre f false false false (decide (b0 = 1)) ∧
      RegisterOnly .rrca s { s.regs with a := BitVec.ofNat 8 (a / 2 + b0 * 128), f := f } 4 ∧
      RegisterOnly .rra s { s.regs with a := BitVec.ofNat 8 (a / 2 + ci * 128), f := f } 4)

/-- The rotates of the extended table on a register or the byte at HL (rules R224 to R231). -/
def Obligations.RotateExtended : Prop :=
  ∀ (s : State) (o : Opnd),
    let v := (s.readOpnd o).toNat
    let b7 := v / 128
    let b0 := v % 2
    let ci : Nat := if s.regs.f.getLsbD 4 then 1 else 0
    (∀ op, encode (Instr.rot op o) = ([0xCB, op.code <<< 3 ||| o.code] : List Byte)) ∧
    (∃ f, FlagsAre f (decide ((v * 2 + b7) % 256 = 0)) false false (decide (b7 = 1)) ∧
      ModifiesOpnd (Instr.rot .rlc o) s o (BitVec.ofNat 8 (v * 2 + b7)) f 8) ∧
    (∃ f, FlagsAre f (decide (v / 2 + b0 * 128 = 0)) false false (decide (b0 = 1)) ∧
      ModifiesOpnd (Instr.rot .rrc o) s o (BitVec.ofNat 8 (v / 2 + b0 * 128)) f 8) ∧
    (∃ f, FlagsAre f (decide ((v * 2 + ci) % 256 = 0)) false false (decide (b7 = 1)) ∧
      ModifiesOpnd (Instr.rot .rl o) s o (BitVec.ofNat 8 (v * 2 + ci)) f 8) ∧
    (∃ f, FlagsAre f (decide (v / 2 + ci * 128 = 0)) false false (decide (b0 = 1)) ∧
      ModifiesOpnd (Instr.rot .rr o) s o (BitVec.ofNat 8 (v / 2 + ci * 128)) f 8)

/-- The shifts and `SWAP` on a register or the byte at HL (rules R232 to R239). -/
def Obligations.ShiftExtended : Prop :=
  ∀ (s : State) (o : Opnd),
    let v := (s.readOpnd o).toNat
    let b7 := v / 128
    let b0 := v % 2
    (∀ op, encode (Instr.rot op o) = ([0xCB, op.code <<< 3 ||| o.code] : List Byte)) ∧
    (∃ f, FlagsAre f (decide (v * 2 % 256 = 0)) false false (decide (b7 = 1)) ∧
      ModifiesOpnd (Instr.rot .sla o) s o (BitVec.ofNat 8 (v * 2)) f 8) ∧
    (∃ f, FlagsAre f (decide (v / 2 + b7 * 128 = 0)) false false (decide (b0 = 1)) ∧
      ModifiesOpnd (Instr.rot .sra o) s o (BitVec.ofNat 8 (v / 2 + b7 * 128)) f 8) ∧
    (∃ f, FlagsAre f (decide (v = 0)) false false false ∧
      ModifiesOpnd (Instr.rot .swap o) s o (BitVec.ofNat 8 (v % 16 * 16 + v / 16)) f 8) ∧
    (∃ f, FlagsAre f (decide (v / 2 = 0)) false false (decide (b0 = 1)) ∧
      ModifiesOpnd (Instr.rot .srl o) s o (BitVec.ofNat 8 (v / 2)) f 8)

/-- `BIT b` on a register or the byte at HL (rules R240, R241): nothing but F is written. -/
def Obligations.BitTest : Prop :=
  ∀ (s : State) (b : Fin 8) (o : Opnd),
    encode (Instr.bit b o) = ([0xCB, 0x40 ||| BitVec.ofNat 8 b.val <<< 3 ||| o.code] : List Byte) ∧
    ∃ f, FlagsAre f (!(s.readOpnd o).getLsbD b.val) false true (s.regs.f.getLsbD 4) ∧
      UsesSource (Instr.bit b o) s (.opnd o) { s.regs with f := f } 8

/-- `RES b` and `SET b` on a register or the byte at HL (rules R242 to R245): exactly bit b becomes 0 or 1, and no flag is
written. -/
def Obligations.BitResetAndSet : Prop :=
  ∀ (s : State) (b : Fin 8) (o : Opnd),
    encode (Instr.res b o) = ([0xCB, 0x80 ||| BitVec.ofNat 8 b.val <<< 3 ||| o.code] : List Byte) ∧
    encode (Instr.set b o) = ([0xCB, 0xC0 ||| BitVec.ofNat 8 b.val <<< 3 ||| o.code] : List Byte) ∧
    (∃ r : Byte, (∀ k, k < 8 → r.getLsbD k = (if k = b.val then false else (s.readOpnd o).getLsbD k)) ∧
      ModifiesOpnd (Instr.res b o) s o r s.regs.f 8) ∧
    (∃ r : Byte, (∀ k, k < 8 → r.getLsbD k = (if k = b.val then true else (s.readOpnd o).getLsbD k)) ∧
      ModifiesOpnd (Instr.set b o) s o r s.regs.f 8)

/-! Control flow. -/

/-- The conditions, `JP n16`, `JP cc,n16`, `JP HL`, `JR e8`, `JR cc,e8` (rules R254 to R259). PC on the right is the address
after the instruction. -/
def Obligations.Jumps : Prop :=
  (∀ f : Byte, condHolds .nz f = !f.getLsbD 7 ∧ condHolds .z f = f.getLsbD 7 ∧ condHolds .nc f = !f.getLsbD 4 ∧
    condHolds .c f = f.getLsbD 4) ∧
  ∀ (s : State) (cc : Cond) (w : Word) (e : Byte),
    let rel := BitVec.ofInt 16 ((s.regs.pc.toNat : Int) + e.toInt)
    encode (.jp_n16 w) = [0xC3, loByte w, hiByte w] ∧ RegisterOnly (.jp_n16 w) s { s.regs with pc := w } 16 ∧
    encode (Instr.jpCond cc w) = [0xC2 ||| cc.code <<< 3, loByte w, hiByte w] ∧
    RegisterOnly (Instr.jpCond cc w) s { s.regs with pc := if condHolds cc s.regs.f then w else s.regs.pc }
      (if condHolds cc s.regs.f then 16 else 12) ∧
    encode .jp_hl = [0xE9] ∧ RegisterOnly .jp_hl s { s.regs with pc := s.regs.h ++ s.regs.l } 4 ∧
    encode (.jr_e8 e) = [0x18, e] ∧ RegisterOnly (.jr_e8 e) s { s.regs with pc := rel } 12 ∧
    encode (Instr.jrCond cc e) = [0x20 ||| cc.code <<< 3, e] ∧
    RegisterOnly (Instr.jrCond cc e) s { s.regs with pc := if condHolds cc s.regs.f then rel else s.regs.pc }
      (if condHolds cc s.regs.f then 12 else 8)

/-- `CALL n16`, `CALL cc,n16`, `RST t` (rules R260, R261, R265): the address after the instruction is pushed; a call not taken
pushes nothing. -/
def Obligations.CallsAndRestarts : Prop :=
  ∀ (s : State) (cc : Cond) (w : Word) (y : Fin 8),
    encode (.call_n16 w) = [0xCD, loByte w, hiByte w] ∧ PushesWord (.call_n16 w) s s.regs.pc w 24 ∧
    encode (Instr.callCond cc w) = [0xC4 ||| cc.code <<< 3, loByte w, hiByte w] ∧
    (condHolds cc s.regs.f = true → PushesWord (Instr.callCond cc w) s s.regs.pc w 24) ∧
    (condHolds cc s.regs.f = false → RegisterOnly (Instr.callCond cc w) s s.regs 12) ∧
    encode (Instr.rst y) = [0xC7 ||| BitVec.ofNat 8 y.val <<< 3] ∧
    PushesWord (Instr.rst y) s s.regs.pc (BitVec.ofNat 16 (y.val * 8)) 16

/-- `RET`, `RET cc`, `RETI` (rules R262 to R264): `RETI` sets IME with the return. -/
def Obligations.Returns : Prop :=
  ∀ (s : State) (cc : Cond),
    encode .ret = [0xC9] ∧ PopsWord .ret s { s.regs with pc := s.stackTop } s.ime 16 ∧
    encode (Instr.retCond cc) = [0xC0 ||| cc.code <<< 3] ∧
    (condHolds cc s.regs.f = true → PopsWord (Instr.retCond cc) s { s.regs with pc := s.stackTop } s.ime 20) ∧
    (condHolds cc s.regs.f = false → RegisterOnly (Instr.retCond cc) s s.regs 8) ∧
    encode .reti = [0xD9] ∧ PopsWord .reti s { s.regs with pc := s.stackTop } true 16

/-! CPU control and the fault. -/

/-- `NOP` and `DI` (rules R275, R278). -/
def Obligations.NopAndDi : Prop :=
  ∀ s : State,
    encode .nop = [0x00] ∧ RegisterOnly .nop s s.regs 4 ∧
    encode .di = [0xF3] ∧ ∃ t, exec .di s = .next t ∧ t = { s with ime := false, cycles := s.cycles + 4 } ∧ s.sameBytes t

/-- `HALT`, `STOP`, `EI` (rules R276, R277, R279; that `HALT` halts whatever is pending, `STOP` is a no-op and `EI` acts at once
are the spec's decisions D13, D14, D12). -/
def Obligations.HaltStopEi : Prop :=
  ∀ s : State,
    encode .halt = [0x76] ∧
    (∃ t, exec .halt s = .next t ∧ t = { s with halted := true, cycles := s.cycles + 4 } ∧ s.sameBytes t) ∧
    encode .stop = [0x10] ∧ RegisterOnly .stop s s.regs 4 ∧
    encode .ei = [0xFB] ∧
    ∃ t, exec .ei s = .next t ∧ t = { s with ime := true, cycles := s.cycles + 4 } ∧ s.sameBytes t

/-- The eleven unassigned opcodes (rules R281, R431, R432; the effect is the spec's decision D17, and that it is a next state
with the fault recorded, whose own step reports it, is log entry 6). The instruction puts PC back on the opcode byte, drops the
cost and changes nothing else; a step that meets one calls no update, and a dispatch made before it stands. -/
def Obligations.InvalidOpcodes : Prop :=
  (∀ (s : State) (u : Unassigned), encode (Instr.illegal u) = [u.opcode] ∧
    ∃ t, exec (Instr.illegal u) s = .next t ∧
      t = { s with regs := { s.regs with pc := s.regs.pc - 1 },
                   fault := some (.invalidOpcode (s.regs.pc - 1) u.opcode), cycles := 0 } ∧
      s.sameBytes t) ∧
  (∀ s : State,
    let b := State.interruptDispatch { s.hostTurn with cycles := 0 }
    let op := b.memRead b.regs.pc
    s.fault = none → b.halted = false → op ∈ unassignedOpcodes →
      step s = .next { b.afterRead b.regs.pc with fault := some (.invalidOpcode b.regs.pc op), cycles := 0 })

/-- No instruction and no step stops but for the recorded fault (rules R30, R430; the spec's decision D17). -/
def Obligations.EveryStepCompletes : Prop :=
  (∀ (i : Instr) (s : State), ∃ t, exec i s = .next t) ∧
  (∀ s : State, s.fault = none → ∃ t, step s = .next t) ∧
  (∀ (s : State) (r : Fault), s.fault = some r → step s = .fault r)

/-! Interrupts. -/

/-- A request sets one bit of IF and wakes the CPU, whatever IE and IME hold (rule R436); the host's report of the buttons
requests source 4 exactly if some button is newly pressed (rule R418, decisions D26, D43). -/
def Obligations.Requests : Prop :=
  (∀ (s : State) (k : Fin 5),
    (s.raiseIRQ k.val).intFlag.getLsbD k.val = true ∧
    (∀ j, j < 8 → j ≠ k.val → (s.raiseIRQ k.val).intFlag.getLsbD j = s.intFlag.getLsbD j) ∧
    s.raiseIRQ k.val = { s with intFlag := (s.raiseIRQ k.val).intFlag, halted := false }) ∧
  (∀ (s : State) (n : Buttons),
    let t : State := { s with joypad := { s.joypad with dir := n.dir, act := n.act } }
    ((∃ k, k < 4 ∧ (n.dir.getLsbD k = true ∧ s.joypad.dir.getLsbD k = false ∨
        n.act.getLsbD k = true ∧ s.joypad.act.getLsbD k = false)) → s.setButtons n = t.raiseIRQ 4) ∧
    ((∀ k, k < 4 → (n.dir.getLsbD k = true → s.joypad.dir.getLsbD k = true) ∧
        (n.act.getLsbD k = true → s.joypad.act.getLsbD k = true)) → s.setButtons n = t))

/-- The interrupt check (rules R440 to R442; the cost and the clearing of `halted` are the spec's decisions D11, D38). Without
IME or a pending source it does nothing. Else PC is pushed, the least pending source k is taken: its request is cleared, PC is
0x40 + 8k, IME and `halted` are cleared; no other register changes. The source is selected after the push, as the rule orders
it; for a push that itself withdraws every request the rule has no least k, and k is then some source (log entry 4). -/
def Obligations.InterruptDispatch : Prop :=
  ∀ s : State,
    (s.ime = false ∨ s.intEnable &&& s.intFlag &&& 0x1F = 0 → s.interruptDispatch = s) ∧
    (s.ime = true → s.intEnable &&& s.intFlag &&& 0x1F ≠ 0 →
      let p := (s.busWrite (s.regs.sp - 1) (hiByte s.regs.pc)).busWrite (s.regs.sp - 2) (loByte s.regs.pc)
      ∃ (k : Fin 5) (draws : Nat),
        s.interruptDispatch =
          { p with
            regs := { s.regs with sp := s.regs.sp - 2, pc := BitVec.ofNat 16 (0x40 + 8 * k.val) }
            ime := false
            halted := false
            intFlag := p.intFlag &&& ~~~ (1#8 <<< k.val)
            cycles := s.cycles + s.params.intDispatchCycles
            draws := draws } ∧
        (p.intEnable &&& p.intFlag &&& 0x1F ≠ 0 →
          draws = p.draws ∧ p.intEnable.getLsbD k.val = true ∧ p.intFlag.getLsbD k.val = true ∧
          ∀ j, j < k.val → (p.intEnable.getLsbD j && p.intFlag.getLsbD j) = false) ∧
        ((∀ x ∈ [s.regs.sp - 1, s.regs.sp - 2], x ≠ 0xFFFF ∧ x ≠ 0xFF0F) →
          p.intEnable = s.intEnable ∧ p.intFlag = s.intFlag) ∧
        s.sameBytesBut { s.interruptDispatch with intFlag := p.intFlag } [s.regs.sp - 1, s.regs.sp - 2])

/-- Who writes the flags, IME and `halted` (rules R25, R27, R28): an instruction outside the table of rule R25 writes no flag;
IME is written by `EI`, `DI` and `RETI` only; `halted` is set by `HALT` only and cleared by no instruction. -/
def Obligations.FlagImeHaltWriters : Prop :=
  ∀ (i : Instr) (s t : State), exec i s = .next t →
    (¬ i.writesFlags → t.regs.f = s.regs.f) ∧ (¬ i.writesIME → t.ime = s.ime) ∧ (i ≠ .halt → t.halted = s.halted)

/-- The low nibble of F is always zero (rule R22): reset establishes it, and every instruction and every step keeps it. -/
def Obligations.FlagsLowNibble : Prop :=
  State.reset.regs.f &&& 0x0F = 0 ∧
  (∀ (i : Instr) (s t : State), s.regs.f &&& 0x0F = 0 → exec i s = .next t → t.regs.f &&& 0x0F = 0) ∧
  (∀ s t : State, s.regs.f &&& 0x0F = 0 → step s = .next t → t.regs.f &&& 0x0F = 0)

/-! The bus. -/

/-- WRAM, HRAM, VRAM and OAM are plain storage, in every display mode (rules R69, R71, R74, R330; that no mode blocks an access
is the spec's decision D24): an access is one to the memory and nothing else, and after a write every address of that byte,
those of the echo among them (rule R70, decision D42), reads it and every other address reads as before. -/
def Obligations.RamReadsBack : Prop :=
  (∀ (s : State) (a : Word) (v : Byte),
    (0xC000 ≤ a.toNat → a.toNat ≤ 0xDFFF → s.busRead a = s.wram.read (a.toNat - 0xC000) ∧
      s.busWrite a v = { s with wram := s.wram.write (a.toNat - 0xC000) v }) ∧
    (0xFF80 ≤ a.toNat → a.toNat ≤ 0xFFFE → s.busRead a = s.hram.read (a.toNat - 0xFF80) ∧
      s.busWrite a v = { s with hram := s.hram.write (a.toNat - 0xFF80) v }) ∧
    (0x8000 ≤ a.toNat → a.toNat ≤ 0x9FFF → s.busRead a = s.display.vram.read (a.toNat - 0x8000) ∧
      s.busWrite a v = { s with display := { s.display with vram := s.display.vram.write (a.toNat - 0x8000) v } }) ∧
    (0xFE00 ≤ a.toNat → a.toNat ≤ 0xFE9F → s.busRead a = s.display.oam.read (a.toNat - 0xFE00) ∧
      s.busWrite a v = { s with display := { s.display with oam := s.display.oam.write (a.toNat - 0xFE00) v } })) ∧
  (∀ (s : State) (x a : Word) (v : Byte), (region x).isRam = true →
    (s.busWrite x v).busRead a = if region a = region x then v else s.busRead a)

/-- The echo region is WRAM 0x2000 lower (rule R70, decision D42), and an address without an owner reads the fixed default and
discards writes (rule R79, decisions D8, D32); 0xFF50 has no readable register. -/
def Obligations.EchoAndUnmapped : Prop :=
  ∀ (s : State) (a : Word) (v : Byte),
    (0xE000 ≤ a.toNat → a.toNat ≤ 0xFDFF →
      s.busRead a = s.busRead (a - 0x2000) ∧ s.busWrite a v = s.busWrite (a - 0x2000) v) ∧
    (unmappedAddress a.toNat = true → s.busRead a = s.params.unmappedReadValue ∧ s.busWrite a v = s) ∧
    s.busRead 0xFF50 = s.params.unmappedReadValue

/-- The boot overlay and its lock (rules R66, R67, the address being decision D6): the CPU, not the raw bus, reads the firmware
below 0x0100 while the overlay is on; only a write with bit 0 set to 0xFF50 removes it, a write to 0xFF50 changes nothing else
(rule R63), and no step brings it back. -/
def Obligations.BootLock : Prop :=
  (∀ (s : State) (a : Word),
    s.memRead a = if s.bootActive = true ∧ a.toNat ≤ 0x00FF then s.params.bootRom.read a.toNat else s.busRead a) ∧
  (∀ (s : State) (x : Word) (v : Byte),
    (s.busWrite x v).bootActive = (s.bootActive && !(decide (x = 0xFF50) && v.getLsbD 0)) ∧
    s.busWrite 0xFF50 v = { s with bootActive := s.bootActive && !v.getLsbD 0 }) ∧
  (∀ s t : State, step s = .next t → s.bootActive = false → t.bootActive = false)

/-- After the lock (decision D6) no code can read the firmware (rule R455, decision D34): a step of a machine with another
firmware image is the same step with that image carried along. -/
def Obligations.FirmwareUnreadable : Prop :=
  ∀ (s : State) (m : Memory), s.bootActive = false →
    step (s.withFirmware m) =
      match step s with
      | .next t => .next (t.withFirmware m)
      | .fault r => .fault r
      | .refused r => .refused r

/-- The registers the bus and the devices own, as the bus reads and writes them (rules R31, R32, R72, R78, R309, R404, R415 to
R417). IF and IE are full 8-bit storage, and writing IF wakes nothing (the spec's decisions D6, D40, D41). The timer's registers
follow decision D25, the masks of STAT and LY D22, the trigger of a transfer D23. The joypad's register is active-low, both groups
combined where both are selected, and a write selects the groups and requests nothing (D26). A write to the audio range is one
event and nothing else; what a read there returns is a free value (D10, log entry 3). No other read has an effect. -/
def Obligations.DeviceRegisters : Prop :=
  ∀ (s : State) (v : Byte),
    s.busRead 0xFF04 = s.timer.div ∧ s.busRead 0xFF05 = s.timer.tima ∧ s.busRead 0xFF06 = s.timer.tma ∧
    (s.busRead 0xFF07).toNat = s.timer.tac.toNat ∧
    s.busWrite 0xFF04 v = { s with timer := { s.timer with div := 0x00, divClock := 0 } } ∧
    s.busWrite 0xFF05 v = { s with timer := { s.timer with tima := v } } ∧
    s.busWrite 0xFF06 v = { s with timer := { s.timer with tma := v } } ∧
    s.busWrite 0xFF07 v = { s with timer := { s.timer with tac := BitVec.ofNat 3 (v.toNat % 8) } } ∧
    s.busRead 0xFF40 = s.display.lcdc ∧ s.busRead 0xFF41 = s.display.stat ∧ s.busRead 0xFF42 = s.display.scy ∧
    s.busRead 0xFF43 = s.display.scx ∧ s.busRead 0xFF44 = s.display.ly ∧ s.busRead 0xFF45 = s.display.lyc ∧
    s.busRead 0xFF46 = s.display.dma ∧ s.busRead 0xFF47 = s.display.bgp ∧ s.busRead 0xFF48 = s.display.obp0 ∧
    s.busRead 0xFF49 = s.display.obp1 ∧ s.busRead 0xFF4A = s.display.wy ∧ s.busRead 0xFF4B = s.display.wx ∧
    s.busWrite 0xFF40 v = { s with display := { s.display with lcdc := v } } ∧
    s.busWrite 0xFF41 v = { s with display := { s.display with stat := (s.display.stat &&& 0x07) ||| (v &&& 0x78) } } ∧
    s.busWrite 0xFF42 v = { s with display := { s.display with scy := v } } ∧
    s.busWrite 0xFF43 v = { s with display := { s.display with scx := v } } ∧
    s.busWrite 0xFF44 v = s ∧
    s.busWrite 0xFF45 v = { s with display := { s.display with lyc := v } } ∧
    s.busWrite 0xFF46 v = { s with display := { s.display with dma := v, dmaPending := true } } ∧
    s.busWrite 0xFF47 v = { s with display := { s.display with bgp := v } } ∧
    s.busWrite 0xFF48 v = { s with display := { s.display with obp0 := v } } ∧
    s.busWrite 0xFF49 v = { s with display := { s.display with obp1 := v } } ∧
    s.busWrite 0xFF4A v = { s with display := { s.display with wy := v } } ∧
    s.busWrite 0xFF4B v = { s with display := { s.display with wx := v } } ∧
    s.busRead 0xFF0F = s.intFlag ∧ s.busWrite 0xFF0F v = { s with intFlag := v } ∧
    s.busRead 0xFFFF = s.intEnable ∧ s.busWrite 0xFFFF v = { s with intEnable := v } ∧
    (∀ a, 0xFF10 ≤ a.toNat → a.toNat ≤ 0xFF3F →
      s.busWrite a v = { s with events := s.events ++ [.audioWrite a v] } ∧
      s.busRead a = Config.audioByte s.draws ∧ s.afterRead a = { s with draws := s.draws + 1 }) ∧
    (∀ a, region a ≠ .audio → s.afterRead a = s) ∧
    s.busWrite 0xFF00 v = { s with joypad := { s.joypad with select := BitVec.ofNat 2 (v.toNat / 16) } } ∧
    (s.busRead 0xFF00).getLsbD 7 = true ∧ (s.busRead 0xFF00).getLsbD 6 = true ∧
    (s.busRead 0xFF00).getLsbD 5 = s.joypad.select.getLsbD 1 ∧ (s.busRead 0xFF00).getLsbD 4 = s.joypad.select.getLsbD 0 ∧
    ∀ k, k < 4 → (s.busRead 0xFF00).getLsbD k =
      !((!s.joypad.select.getLsbD 0 && s.joypad.dir.getLsbD k) || (!s.joypad.select.getLsbD 1 && s.joypad.act.getLsbD k))

/-! The cartridge. -/

/-- The ROM-only variant (rule R360): no write banks anything, the image is read at the address itself, and there is no RAM. -/
def Obligations.RomOnly : Prop :=
  ∀ (s : State) (a : Word) (v : Byte), s.mbc = .romOnly → s.params.romSizeOk = true →
    (a.toNat ≤ 0x7FFF → s.busWrite a v = s ∧ s.busRead a = s.params.rom.read (a.toNat % s.params.romSize)) ∧
    (0xA000 ≤ a.toNat → a.toNat ≤ 0xBFFF → s.busRead a = 0xFF ∧ s.busWrite a v = s)

/-- The registers of the bank controllers and the ROM they show (rules R354, R355, R366 to R372, R376 to R379; the windows and the
registers are the spec's decisions D29 to D31, the enable code D27, the reduction modulo the image D28): a write to the ROM area
changes one register of the variant, or nothing, and no read of the area returns a register; a bank selector is never 0; the
fixed window is bank 0, and the switchable one the selected bank, with the upper bits of type 1 in ROM-banking mode. -/
def Obligations.BankRegisters : Prop :=
  ∀ (s : State) (x : Word) (v : Byte), x.toNat ≤ 0x7FFF →
    let set := fun m : Mbc => ({ s with mbc := m } : State)
    let enable := decide (v.toNat % 16 = 10)
    let window := fun bank : Nat => s.params.rom.read ((bank * 0x4000 + (x.toNat - 0x4000)) % s.params.romSize)
    (x.toNat ≤ 0x3FFF → s.busRead x = s.params.rom.read x.toNat) ∧
    (∀ m, s.mbc = .type1 m →
      (x.toNat ≤ 0x1FFF → s.busWrite x v = set (.type1 { m with ramEnabled := enable })) ∧
      (0x2000 ≤ x.toNat → x.toNat ≤ 0x3FFF →
        s.busWrite x v = set (.type1 { m with romBank5 := BitVec.ofNat 5 (max 1 (v.toNat % 32)) })) ∧
      (0x4000 ≤ x.toNat → x.toNat ≤ 0x5FFF → s.busWrite x v = set (.type1 { m with upper2 := BitVec.ofNat 2 (v.toNat % 4) })) ∧
      (0x6000 ≤ x.toNat → s.busWrite x v = set (.type1 { m with mode := BitVec.ofNat 1 (v.toNat % 2) })) ∧
      (0x4000 ≤ x.toNat →
        s.busRead x = window (if m.mode = 0 then m.upper2.toNat * 32 + m.romBank5.toNat else m.romBank5.toNat))) ∧
    (∀ m, s.mbc = .type2 m →
      (x.toNat ≤ 0x3FFF → x.getLsbD 8 = false → s.busWrite x v = set (.type2 { m with ramEnabled := enable })) ∧
      (x.toNat ≤ 0x3FFF → x.getLsbD 8 = true →
        s.busWrite x v = set (.type2 { m with romBank4 := BitVec.ofNat 4 (max 1 (v.toNat % 16)) })) ∧
      (0x4000 ≤ x.toNat → s.busWrite x v = s ∧ s.busRead x = window m.romBank4.toNat)) ∧
    (∀ m, s.mbc = .type3 m →
      (x.toNat ≤ 0x1FFF → s.busWrite x v = set (.type3 { m with ramEnabled := enable })) ∧
      (0x2000 ≤ x.toNat → x.toNat ≤ 0x3FFF →
        s.busWrite x v = set (.type3 { m with romBank7 := BitVec.ofNat 7 (max 1 (v.toNat % 128)) })) ∧
      (0x4000 ≤ x.toNat → x.toNat ≤ 0x5FFF →
        s.busWrite x v = set (.type3 { m with ramRtcSelect := BitVec.ofNat 4 (v.toNat % 16) })) ∧
      (0x6000 ≤ x.toNat → s.busWrite x v = set (.type3 { m with latchLast := v })) ∧
      (0x4000 ≤ x.toNat → s.busRead x = window m.romBank7.toNat))

/-- The ROM bank a write selects (rules R355, R367, R369, R372, R377; the reduction modulo the image and the role of the upper
bits are the spec's decisions D28, D29): the masked value, 0 being taken as 1; so, as rule R388 infers, writing 0 and writing 1
leave the same machine. -/
def Obligations.RomBankSelect : Prop :=
  (∀ (s : State) (x a : Word) (v : Byte), 0x4000 ≤ a.toNat → a.toNat ≤ 0x7FFF →
    let window := fun bank : Nat => s.params.rom.read ((bank * 0x4000 + (a.toNat - 0x4000)) % s.params.romSize)
    (∀ m, s.mbc = .type1 m → 0x2000 ≤ x.toNat → x.toNat ≤ 0x3FFF →
      (s.busWrite x v).busRead a = window ((if m.mode = 0 then m.upper2.toNat * 32 else 0) + max 1 (v.toNat % 32))) ∧
    (∀ m, s.mbc = .type2 m → x.toNat ≤ 0x3FFF → x.getLsbD 8 = true →
      (s.busWrite x v).busRead a = window (max 1 (v.toNat % 16))) ∧
    (∀ m, s.mbc = .type3 m → 0x2000 ≤ x.toNat → x.toNat ≤ 0x3FFF →
      (s.busWrite x v).busRead a = window (max 1 (v.toNat % 128)))) ∧
  (∀ (s : State) (x : Word), x.toNat ≤ 0x3FFF →
    ((s.mbc.variant = .type1 ∨ s.mbc.variant = .type3) → 0x2000 ≤ x.toNat → s.busWrite x 0x00 = s.busWrite x 0x01) ∧
    (s.mbc.variant = .type2 → x.getLsbD 8 = true → s.busWrite x 0x00 = s.busWrite x 0x01))

/-- The RAM of a type 2 cartridge (rules R356, R357, R370, R373; the cells, the kept nibble and the ones above it in a read are the
spec's decision D30): 512 cells of four bits, repeating through the window. -/
def Obligations.NibbleRam : Prop :=
  ∀ (s : State) (m : Mbc2) (x a : Word) (v : Byte), s.mbc = .type2 m → m.ramEnabled = true →
    0xA000 ≤ x.toNat → x.toNat ≤ 0xBFFF → 0xA000 ≤ a.toNat → a.toNat ≤ 0xBFFF →
    s.busWrite x v = { s with cram := s.cram.write ((x.toNat - 0xA000) % 512) (v &&& 0x0F) } ∧
    s.busRead a = (0xF0 : Byte) ||| s.cram.read ((a.toNat - 0xA000) % 512) ∧
    (x.toNat % 512 = a.toNat % 512 → (s.busWrite x v).busRead a = (0xF0 : Byte) ||| (v &&& 0x0F)) ∧
    (x.toNat % 512 ≠ a.toNat % 512 → (s.busWrite x v).busRead a = s.busRead a)

/-- RAM of types 1 and 3 (rules R354, R356, R357, R369, R378, R380; the enable code, the layout, the banks of type 1 and the clock
registers are the spec's decisions D27, D28, D29, D31): only a low nibble 0xA enables it; disabled, without storage, or with a
select of type 3 that maps nothing, it reads 0xFF and discards writes; a selected bank reads back; a selected clock register
answers at every address of the window and keeps all 8 bits. -/
def Obligations.RamWindow : Prop :=
  (∀ (s : State) (x : Word) (v : Byte), x.toNat ≤ 0x1FFF →
    (∀ m, s.mbc = .type1 m → s.busWrite x v = { s with mbc := .type1 { m with ramEnabled := decide (v.toNat % 16 = 10) } }) ∧
    (∀ m, s.mbc = .type3 m → s.busWrite x v = { s with mbc := .type3 { m with ramEnabled := decide (v.toNat % 16 = 10) } })) ∧
  (∀ (s : State) (a : Word) (v : Byte), 0xA000 ≤ a.toNat → a.toNat ≤ 0xBFFF →
    ((∃ m, s.mbc = .type1 m ∧ m.ramEnabled = false) ∨ (∃ m, s.mbc = .type2 m ∧ m.ramEnabled = false) ∨
        (∃ m, s.mbc = .type3 m ∧ m.ramEnabled = false) → s.busRead a = 0xFF ∧ s.busWrite a v = s) ∧
    (∀ m, s.mbc = .type1 m → ramSize s.params = 0 → s.busRead a = 0xFF ∧ s.busWrite a v = s) ∧
    (∀ m, s.mbc = .type3 m → m.ramRtcSelect.toNat ≤ 3 → ramSize s.params = 0 → s.busRead a = 0xFF ∧ s.busWrite a v = s) ∧
    (∀ m, s.mbc = .type3 m →
      (4 ≤ m.ramRtcSelect.toNat ∧ m.ramRtcSelect.toNat ≤ 7) ∨ 13 ≤ m.ramRtcSelect.toNat →
      s.busRead a = 0xFF ∧ s.busWrite a v = s) ∧
    (∀ m, s.mbc = .type1 m → m.ramEnabled = true → 0 < ramSize s.params →
      let i := ((if m.mode = 1 then m.upper2.toNat else 0) * 0x2000 + (a.toNat - 0xA000)) % ramSize s.params
      s.busRead a = s.cram.read i ∧ s.busWrite a v = { s with cram := s.cram.write i v } ∧ (s.busWrite a v).busRead a = v) ∧
    (∀ m, s.mbc = .type3 m → m.ramEnabled = true → m.ramRtcSelect.toNat ≤ 3 → 0 < ramSize s.params →
      let i := (m.ramRtcSelect.toNat * 0x2000 + (a.toNat - 0xA000)) % ramSize s.params
      s.busRead a = s.cram.read i ∧ s.busWrite a v = { s with cram := s.cram.write i v } ∧ (s.busWrite a v).busRead a = v) ∧
    (∀ m, s.mbc = .type3 m → m.ramEnabled = true → 8 ≤ m.ramRtcSelect.toNat → m.ramRtcSelect.toNat ≤ 12 →
      s.busRead a = m.rtc.get (m.ramRtcSelect.toNat - 8) ∧
      s.busWrite a v = { s with mbc := .type3 { m with rtc := m.rtc.set (m.ramRtcSelect.toNat - 8) v } } ∧
      ∀ b : Word, 0xA000 ≤ b.toNat → b.toNat ≤ 0xBFFF → (s.busWrite a v).busRead b = v))

/-! The timer and the display. -/

/-- The timer's update is the two loops of rule R405 (decision D25), taken in closed form; and DIV with its clock, read as one
number, advances by the cost modulo 65536 (rule R400). -/
def Obligations.TimerMatchesLoops : Prop :=
  ∀ (s : State) (c : Nat),
    s.timerUpdate c = timerLoops s c ∧
    (s.timer.divClock < 256 →
      (s.timerUpdate c).timer.divClock < 256 ∧
      (s.timerUpdate c).timer.div.toNat * 256 + (s.timerUpdate c).timer.divClock =
        (s.timer.div.toNat * 256 + s.timer.divClock + c) % 65536)

/-- The transitions of the timing state machine while it runs (rules R310, R312 to R314, R318): at most one in an update, the
threshold being subtracted from the mode clock and the rest carried (the spec's decision D18; when the machine runs is D19). Each
makes the requests of its rule, beside that of the coincidence in every update (rule R316, decision D20), and no other; a request
wakes the CPU. -/
def Obligations.ModeTransitions : Prop :=
  ∀ (s : State) (c : Nat), s.displayRuns →
    let n := s.display.modeClock + c
    let t := s.displayUpdate c
    let requests := fun vblank source : Bool =>
      let stat := source || (decide (t.display.ly = s.display.lyc) && s.display.stat.getLsbD 6)
      t.intFlag = s.intFlag ||| (if vblank then 0x01 else 0x00) ||| (if stat then 0x02 else 0x00) ∧
        t.halted = (s.halted && !(vblank || stat))
    (s.display.mode = 2 → 80 ≤ n →
      t.display.mode = 3 ∧ t.display.modeClock = n - 80 ∧ t.display.ly = s.display.ly ∧ t.events = s.events ∧
      requests false false) ∧
    (s.display.mode = 3 → 172 ≤ n →
      t.display.mode = 0 ∧ t.display.modeClock = n - 172 ∧ t.display.ly = s.display.ly ∧
      t.events = s.events ++ [.renderLine s.display.ly] ∧ requests false (s.display.stat.getLsbD 3)) ∧
    (s.display.mode = 0 → 204 ≤ n →
      t.display.modeClock = n - 204 ∧ t.display.ly = s.display.ly + 1 ∧
      (s.display.ly + 1 = 144 →
        t.display.mode = 1 ∧ t.events = s.events ++ [.presentFrame] ∧ requests true (s.display.stat.getLsbD 4)) ∧
      (s.display.ly + 1 ≠ 144 →
        t.display.mode = 2 ∧ t.events = s.events ∧ requests false (s.display.stat.getLsbD 5))) ∧
    (n < modeThreshold s.display.mode →
      t.display.mode = s.display.mode ∧ t.display.modeClock = n ∧ t.display.ly = s.display.ly ∧ t.events = s.events ∧
      requests false false)

/-- Every request the display makes while it runs, and no other (rule R319). -/
def Obligations.DisplayRequests : Prop :=
  ∀ (s : State) (c : Nat), s.displayRuns →
    let n := s.display.modeClock + c
    let t := s.displayUpdate c
    let vblank := decide (s.display.mode = 0 ∧ 204 ≤ n ∧ s.display.ly + 1 = 144)
    let hblank := decide (s.display.mode = 3 ∧ 172 ≤ n)
    let oamScan := decide (s.display.mode = 0 ∧ 204 ≤ n ∧ s.display.ly + 1 ≠ 144) ||
      decide (s.display.mode = 1 ∧ 456 ≤ n ∧ s.display.ly + 1 = 154)
    let stat := (vblank && s.display.stat.getLsbD 4) || (hblank && s.display.stat.getLsbD 3) ||
      (oamScan && s.display.stat.getLsbD 5) || (decide (t.display.ly = s.display.lyc) && s.display.stat.getLsbD 6)
    t.intFlag = s.intFlag ||| (if vblank then 0x01 else 0x00) ||| (if stat then 0x02 else 0x00) ∧
    t.halted = (s.halted && !(vblank || stat))

/-- The end of a VBlank line, the coincidence bit, and the display held while it is disabled (rules R315, R316, R318; the
request of line 0, the absence of an edge latch and the gating are the spec's decisions D21, D20, D19). -/
def Obligations.VBlankLinesAndHold : Prop :=
  ∀ (s : State) (c : Nat),
    let n := s.display.modeClock + c
    let t := s.displayUpdate c
    (s.displayRuns → s.display.mode = 1 → 456 ≤ n →
      t.display.modeClock = n - 456 ∧ t.events = s.events ∧
      (s.display.ly + 1 = 154 → t.display.ly = 0 ∧ t.display.mode = 2) ∧
      (s.display.ly + 1 ≠ 154 → t.display.ly = s.display.ly + 1 ∧ t.display.mode = 1)) ∧
    (s.displayRuns → t.display.stat.getLsbD 2 = decide (t.display.ly = t.display.lyc)) ∧
    (¬ s.displayRuns →
      t.display.modeClock = 0 ∧ t.display.ly = 0 ∧ t.display.mode = 0 ∧
      t.display.stat.getLsbD 2 = s.display.stat.getLsbD 2 ∧ t.intFlag = s.intFlag ∧ t.halted = s.halted ∧
      t.events = s.events)

/-- The OAM transfer (rules R320, R321, decision D23): the update that ends the triggering step copies 160 bytes through the raw
bus, of which the firmware is no part; a byte of the audio range is a free value (log entry 3). Without a transfer pending OAM
is left alone and the budget counts down to 0. And the frame of every update, transfer or not, display on or off (rules R310,
R312 to R319): nothing changes but OAM and the transfer's fields, STAT's low three bits, LY, the mode clock, IF, `halted`, the
event list and, where the transfer reads the audio range, the counter of free values. -/
def Obligations.OamTransfer : Prop :=
  ∀ (s : State) (c : Nat),
    let t := s.displayUpdate c
    let source := fun i : Nat => BitVec.ofNat 16 (s.display.dma.toNat * 256 + i)
    (s.display.dmaPending = true →
      t.display.dmaPending = false ∧ t.display.dmaBudget = s.params.dmaBudgetCycles ∧
      (∀ i, i < 160 → region (source i) ≠ .audio → t.display.oam.read i = s.busRead (source i)) ∧
      ((∀ i, i < 160 → region (source i) ≠ .audio) → t.draws = s.draws)) ∧
    (s.display.dmaPending = false →
      t.display.oam = s.display.oam ∧ t.display.dmaPending = false ∧ t.display.dmaBudget = s.display.dmaBudget - c ∧
      t.draws = s.draws) ∧
    t.display.stat &&& 0xF8 = s.display.stat &&& 0xF8 ∧
    ∃ oam pending budget stat ly clock intFlag halted events draws,
      t = { s with
            display := { s.display with oam := oam, dmaPending := pending, dmaBudget := budget, stat := stat, ly := ly,
                                        modeClock := clock }
            intFlag := intFlag, halted := halted, events := events, draws := draws }

/-! Rules about every step. -/

/-- No instruction moves a peripheral's time (rule R6): LY, the mode and the coincidence bit, the mode clock, the transfer
budget, the counter's clock, the pressed buttons, the total and the parameters are as before; they change in the updates
only. That software cannot write LY and STAT's low bits is the spec's decision D22. -/
def Obligations.InstructionsLeaveTime : Prop :=
  ∀ (i : Instr) (s t : State), exec i s = .next t →
    t.display.ly = s.display.ly ∧ t.display.stat &&& 0x07 = s.display.stat &&& 0x07 ∧
    t.display.modeClock = s.display.modeClock ∧ t.display.dmaBudget = s.display.dmaBudget ∧
    t.timer.timaClock = s.timer.timaClock ∧ t.joypad.dir = s.joypad.dir ∧ t.joypad.act = s.joypad.act ∧
    t.totalCycles = s.totalCycles ∧ t.params = s.params

/-- What is fixed at load stays (rules R45, R350): no step changes the ROM, the firmware, a parameter or the variant. -/
def Obligations.LoadedNeverChanges : Prop :=
  ∀ s t : State, step s = .next t → t.params = s.params ∧ t.mbc.variant = s.mbc.variant

/-- A completed step costs at least 4 cycles and at most 24 and a dispatch (rule R310), whose cost is the parameter of the spec's
decision D11. -/
def Obligations.StepCost : Prop :=
  ∀ s t : State, step s = .next t → t.fault = none →
    s.totalCycles + 4 ≤ t.totalCycles ∧ t.totalCycles ≤ s.totalCycles + 24 + s.params.intDispatchCycles

/-- The values of rule R44, which the rule marks as the spec's own decisions D3 to D5 (log entry 9), with R8's default
parameters. That the ROM window reads 0x00 and the cartridge window 0xFF is the model's choice: R8 gives no default for ROM, the
firmware and the header codes (log entry 2). -/
def Obligations.ResetValues : Prop :=
  let s := State.reset
  s.regs = ⟨0, 0, 0, 0, 0, 0, 0, 0, 0, 0⟩ ∧ s.ime = false ∧ s.halted = false ∧ s.fault = none ∧ s.cycles = 0 ∧
  s.totalCycles = 0 ∧ s.bootActive = true ∧ s.intFlag = 0 ∧ s.intEnable = 0 ∧
  (∀ a, region a ≠ .audio → region a ≠ .cartRam → region a ≠ .joypad → s.busRead a = 0x00) ∧
  (∀ a, region a = .cartRam ∨ region a = .joypad → s.busRead a = 0xFF) ∧
  s.display.modeClock = 0 ∧ s.display.dmaPending = false ∧ s.display.dmaBudget = 0 ∧ s.timer.divClock = 0 ∧
  s.timer.timaClock = 0 ∧ s.joypad = ⟨0b11, 0, 0⟩ ∧ s.events = []

/-- The invariant holds at power-on, for every parameter and image the host may supply, and in particular at reset
(the spec's decisions D3 to D5, log entry 9). -/
def Obligations.InvAtReset : Prop :=
  State.reset.Inv ∧
  ∀ (p : Params) (im : InitImages), p.wellFormed = true → im.wellFormed p = true → (State.resetWith p im).Inv

/-- The invariant of the machine between steps is kept by every step: the flags' low nibble, the canonical form and the bounds
of every memory, the bank selectors, STAT's top bit, the lines and clocks of each display mode, and the timer's clocks.
It rests on the spec's decisions D18, D19, D22, D25, D27 and D30. -/
def Obligations.StepKeepsInv : Prop := ∀ s t : State, s.Inv → step s = .next t → t.Inv
end

