-- ==== Sys2Proof/Laws/Memory.lean ====
section
/-! SUPPORT. The laws of sparse storage: a read after a write, and that every operation keeps the canonical form. -/

namespace Sys2Proof

theorem readCells_insertCell_ne {a b : Nat} (h : b ≠ a) (v : Byte) (cs : List Host.Cell) :
    readCells b (insertCell a v cs) = readCells b cs := by
  induction cs with
  | nil => simp [insertCell, readCells, h]
  | cons c rest ih =>
    simp only [insertCell]
    split
    · simp [readCells, h]
    · simp only [readCells, ih]

theorem readCells_filter_ne {a b : Nat} (h : b ≠ a) (cs : List Host.Cell) :
    readCells b (cs.filter fun c => c.1 != a) = readCells b cs := by
  induction cs with
  | nil => rfl
  | cons c rest ih =>
    by_cases hc : c.1 = a
    · have hb : b ≠ c.1 := hc ▸ h
      simp [hc, readCells, ih, h]
    · simp [hc, readCells, ih]

theorem readCells_filter_same (a : Nat) (cs : List Host.Cell) :
    readCells a (cs.filter fun c => c.1 != a) = Memory.fill := by
  induction cs with
  | nil => rfl
  | cons c rest ih =>
    by_cases hc : c.1 = a
    · simp [hc, ih]
    · simp [hc, readCells, ih, Ne.symm hc]

theorem readCells_insertCell_same (a : Nat) (v : Byte) (cs : List Host.Cell) (h : ∀ c ∈ cs, c.1 ≠ a) :
    readCells a (insertCell a v cs) = v := by
  induction cs with
  | nil => simp [insertCell, readCells]
  | cons c rest ih =>
    simp only [insertCell]
    split
    · simp [readCells]
    · have hc : a ≠ c.1 := (h c (by simp)).symm
      simp only [readCells, if_neg hc]
      exact ih fun d hd => h d (by simp [hd])

/-- A read of the offset written gives the byte written. -/
@[simp] theorem Memory.read_write_same (m : Memory) (a : Nat) (v : Byte) : (m.write a v).read a = v := by
  simp only [Memory.read, Memory.write, writeCells]
  split
  · rename_i hv
    rw [readCells_filter_same, hv]
  · exact readCells_insertCell_same a v _ (by simp)

/-- A write leaves every other offset alone. -/
theorem Memory.read_write_ne (m : Memory) {a b : Nat} (h : b ≠ a) (v : Byte) : (m.write a v).read b = m.read b := by
  simp only [Memory.read, Memory.write, writeCells]
  split
  · exact readCells_filter_ne h _
  · rw [readCells_insertCell_ne h, readCells_filter_ne h]

theorem Memory.read_write (m : Memory) (a b : Nat) (v : Byte) :
    (m.write a v).read b = if b = a then v else m.read b := by
  split
  · rename_i h
    rw [h, Memory.read_write_same]
  · rename_i h
    exact Memory.read_write_ne m h v

/-! The canonical form. -/

theorem cellsOk_mono {size lo lo' : Nat} (h : lo ≤ lo') {cs : List Host.Cell} (hc : cellsOk size lo' cs = true) :
    cellsOk size lo cs = true := by
  cases cs with
  | nil => rfl
  | cons c rest =>
    simp only [cellsOk, Bool.and_eq_true, decide_eq_true_eq] at hc ⊢
    exact ⟨⟨⟨by omega, hc.1.1.2⟩, hc.1.2⟩, hc.2⟩

theorem cellsOk_filter (size lo a : Nat) (cs : List Host.Cell) (h : cellsOk size lo cs = true) :
    cellsOk size lo (cs.filter fun c => c.1 != a) = true := by
  induction cs generalizing lo with
  | nil => rfl
  | cons c rest ih =>
    simp only [cellsOk, Bool.and_eq_true, decide_eq_true_eq] at h
    have hr := ih (c.1 + 1) h.2
    by_cases hc : c.1 = a
    · rw [List.filter_cons_of_neg (by simp [hc])]
      exact cellsOk_mono (by omega) hr
    · rw [List.filter_cons_of_pos (by simp [hc])]
      simp only [cellsOk, Bool.and_eq_true, decide_eq_true_eq]
      exact ⟨h.1, hr⟩

theorem cellsOk_insertCell {size lo a : Nat} {v : Byte} {cs : List Host.Cell} (hlo : lo ≤ a) (ha : a < size)
    (hv : v ≠ Memory.fill) (hne : ∀ c ∈ cs, c.1 ≠ a) (h : cellsOk size lo cs = true) :
    cellsOk size lo (insertCell a v cs) = true := by
  induction cs generalizing lo with
  | nil => simp [insertCell, cellsOk, hlo, ha, hv]
  | cons c rest ih =>
    simp only [cellsOk, Bool.and_eq_true, decide_eq_true_eq] at h
    simp only [insertCell]
    split
    · rename_i hlt
      simp only [cellsOk, Bool.and_eq_true, decide_eq_true_eq]
      exact ⟨⟨⟨hlo, ha⟩, hv⟩, ⟨⟨by omega, h.1.1.2⟩, h.1.2⟩, h.2⟩
    · have hc : c.1 ≠ a := hne c (by simp)
      simp only [cellsOk, Bool.and_eq_true, decide_eq_true_eq]
      exact ⟨h.1, ih (by omega) (fun d hd => hne d (by simp [hd])) h.2⟩

/-- A write inside the memory keeps its canonical form. -/
theorem Memory.wf_write {size : Nat} {m : Memory} (h : m.wf size = true) {a : Nat} (ha : a < size) (v : Byte) :
    (m.write a v).wf size = true := by
  simp only [Memory.wf, Memory.write, writeCells] at h ⊢
  split
  · exact cellsOk_filter size 0 a _ h
  · rename_i hv
    exact cellsOk_insertCell (Nat.zero_le a) ha hv (by simp) (cellsOk_filter size 0 a _ h)

@[simp] theorem Memory.wf_empty (size : Nat) : Memory.empty.wf size = true := rfl

@[simp] theorem Memory.read_empty (a : Nat) : Memory.empty.read a = Memory.fill := rfl

theorem mem_insertCell {a : Nat} {v : Byte} {cs : List Host.Cell} {c : Host.Cell} (h : c ∈ insertCell a v cs) :
    c = (a, v) ∨ c ∈ cs := by
  induction cs with
  | nil => exact .inl (by simpa [insertCell] using h)
  | cons d rest ih =>
    simp only [insertCell] at h
    split at h
    · simpa using h
    · rcases List.mem_cons.1 h with h | h
      · exact .inr (by simp [h])
      · rcases ih h with h | h
        · exact .inl h
        · exact .inr (by simp [h])

/-- Storing a 4-bit value keeps every cell a 4-bit value. -/
theorem Memory.nibblesOnly_write {m : Memory} (h : m.nibblesOnly = true) (a : Nat) {v : Byte} (hv : v &&& 0xF0 = 0) :
    (m.write a v).nibblesOnly = true := by
  simp only [Memory.nibblesOnly, List.all_eq_true, beq_iff_eq, Memory.write, writeCells] at h ⊢
  intro c hc
  split at hc
  · exact h c (List.mem_filter.1 hc).1
  · rcases mem_insertCell hc with hc | hc
    · rw [hc]; exact hv
    · exact h c (List.mem_filter.1 hc).1

theorem cellsOk_lowNibbles (size lo : Nat) (cs : List Host.Cell) (h : cellsOk size lo cs = true) :
    cellsOk size lo ((cs.map fun c => (c.1, c.2 &&& 0x0F)).filter fun c => c.2 != Memory.fill) = true := by
  induction cs generalizing lo with
  | nil => rfl
  | cons c rest ih =>
    simp only [cellsOk, Bool.and_eq_true, decide_eq_true_eq] at h
    have hr := ih (c.1 + 1) h.2
    rw [List.map_cons, List.filter_cons]
    split
    · rename_i hv
      simp only [cellsOk, Bool.and_eq_true, decide_eq_true_eq]
      exact ⟨⟨h.1.1, by simpa using hv⟩, hr⟩
    · exact cellsOk_mono (by omega) hr

theorem Memory.wf_lowNibbles {size : Nat} {m : Memory} (h : m.wf size = true) : m.lowNibbles.wf size = true :=
  cellsOk_lowNibbles size 0 m.cells h

theorem Memory.nibblesOnly_lowNibbles (m : Memory) : m.lowNibbles.nibblesOnly = true := by
  simp only [Memory.nibblesOnly, Memory.lowNibbles, List.all_eq_true, List.mem_filter, List.mem_map, beq_iff_eq]
  rintro c ⟨⟨d, -, rfl⟩, -⟩
  show d.2 &&& 0x0F &&& 0xF0 = 0
  rw [BitVec.and_assoc]
  simp

/-! Equal contents are equal data. -/

theorem readCells_of_lt {size lo a : Nat} (h : a < lo) {cs : List Host.Cell} (hc : cellsOk size lo cs = true) :
    readCells a cs = Memory.fill := by
  induction cs generalizing lo with
  | nil => rfl
  | cons c rest ih =>
    simp only [cellsOk, Bool.and_eq_true, decide_eq_true_eq] at hc
    have hne : a ≠ c.1 := by omega
    simp only [readCells, if_neg hne]
    exact ih (lo := c.1 + 1) (by omega) hc.2

theorem cells_ext {size lo : Nat} {cs ds : List Host.Cell} (hc : cellsOk size lo cs = true)
    (hd : cellsOk size lo ds = true) (h : ∀ a, readCells a cs = readCells a ds) : cs = ds := by
  induction cs generalizing lo ds with
  | nil =>
    cases ds with
    | nil => rfl
    | cons d rest =>
      simp only [cellsOk, Bool.and_eq_true, decide_eq_true_eq] at hd
      have := h d.1
      simp only [readCells, if_true] at this
      exact absurd this.symm hd.1.2
  | cons c cs' ih =>
    simp only [cellsOk, Bool.and_eq_true, decide_eq_true_eq] at hc
    cases ds with
    | nil =>
      have := h c.1
      simp only [readCells, if_true] at this
      exact absurd this hc.1.2
    | cons d ds' =>
      simp only [cellsOk, Bool.and_eq_true, decide_eq_true_eq] at hd
      have key : c.1 = d.1 := by
        rcases Nat.lt_trichotomy c.1 d.1 with hlt | heq | hlt
        · have := h c.1
          simp only [readCells, if_true, if_neg (Nat.ne_of_lt hlt)] at this
          rw [readCells_of_lt (lo := d.1 + 1) (by omega) hd.2] at this
          exact absurd this hc.1.2
        · exact heq
        · have := h d.1
          simp only [readCells, if_true, if_neg (Nat.ne_of_lt hlt)] at this
          rw [readCells_of_lt (lo := c.1 + 1) (by omega) hc.2] at this
          exact absurd this.symm hd.1.2
      have hval : c.2 = d.2 := by
        have := h c.1
        simpa only [readCells, if_true, key] using this
      have hcd : c = d := Prod.ext key hval
      subst hcd
      congr 1
      refine ih hc.2 hd.2 fun a => ?_
      by_cases ha : a = c.1
      · rw [readCells_of_lt (lo := c.1 + 1) (by omega) hc.2, readCells_of_lt (lo := c.1 + 1) (by omega) hd.2]
      · have := h a
        simpa only [readCells, if_neg ha] using this

/-- Two memories in canonical form that read alike are the same data. -/
theorem Memory.ext_of_read {size : Nat} {m n : Memory} (hm : m.wf size = true) (hn : n.wf size = true)
    (h : ∀ a, m.read a = n.read a) : m = n := by
  obtain ⟨cs⟩ := m
  obtain ⟨ds⟩ := n
  exact congrArg Memory.mk (cells_ext hm hn h)

end Sys2Proof
end

