-- ==== Sys2Proof/Laws/State.lean ====
section
/-! SUPPORT. The small laws of the state: one per field and update, and the register file. -/

namespace Sys2Proof.Machine

/-! `addCycles` -/

@[simp] theorem State.addCycles_regs (s : State) (n : Nat) : (s.addCycles n).regs = s.regs := rfl
@[simp] theorem State.addCycles_ime (s : State) (n : Nat) : (s.addCycles n).ime = s.ime := rfl
@[simp] theorem State.addCycles_halted (s : State) (n : Nat) : (s.addCycles n).halted = s.halted := rfl
@[simp] theorem State.addCycles_bootActive (s : State) (n : Nat) : (s.addCycles n).bootActive = s.bootActive := rfl
@[simp] theorem State.addCycles_fault (s : State) (n : Nat) : (s.addCycles n).fault = s.fault := rfl
@[simp] theorem State.addCycles_cycles (s : State) (n : Nat) : (s.addCycles n).cycles = s.cycles + n := rfl
@[simp] theorem State.addCycles_totalCycles (s : State) (n : Nat) : (s.addCycles n).totalCycles = s.totalCycles := rfl
@[simp] theorem State.addCycles_intFlag (s : State) (n : Nat) : (s.addCycles n).intFlag = s.intFlag := rfl
@[simp] theorem State.addCycles_intEnable (s : State) (n : Nat) : (s.addCycles n).intEnable = s.intEnable := rfl
@[simp] theorem State.addCycles_wram (s : State) (n : Nat) : (s.addCycles n).wram = s.wram := rfl
@[simp] theorem State.addCycles_hram (s : State) (n : Nat) : (s.addCycles n).hram = s.hram := rfl
@[simp] theorem State.addCycles_display (s : State) (n : Nat) : (s.addCycles n).display = s.display := rfl
@[simp] theorem State.addCycles_timer (s : State) (n : Nat) : (s.addCycles n).timer = s.timer := rfl
@[simp] theorem State.addCycles_joypad (s : State) (n : Nat) : (s.addCycles n).joypad = s.joypad := rfl
@[simp] theorem State.addCycles_mbc (s : State) (n : Nat) : (s.addCycles n).mbc = s.mbc := rfl
@[simp] theorem State.addCycles_cram (s : State) (n : Nat) : (s.addCycles n).cram = s.cram := rfl
@[simp] theorem State.addCycles_events (s : State) (n : Nat) : (s.addCycles n).events = s.events := rfl
@[simp] theorem State.addCycles_params (s : State) (n : Nat) : (s.addCycles n).params = s.params := rfl
@[simp] theorem State.addCycles_draws (s : State) (n : Nat) : (s.addCycles n).draws = s.draws := rfl
@[simp] theorem State.addCycles_hostInputs (s : State) (n : Nat) : (s.addCycles n).hostInputs = s.hostInputs := rfl

/-! `emit` -/

@[simp] theorem State.emit_regs (s : State) (ev : Event) : (s.emit ev).regs = s.regs := rfl
@[simp] theorem State.emit_ime (s : State) (ev : Event) : (s.emit ev).ime = s.ime := rfl
@[simp] theorem State.emit_halted (s : State) (ev : Event) : (s.emit ev).halted = s.halted := rfl
@[simp] theorem State.emit_bootActive (s : State) (ev : Event) : (s.emit ev).bootActive = s.bootActive := rfl
@[simp] theorem State.emit_fault (s : State) (ev : Event) : (s.emit ev).fault = s.fault := rfl
@[simp] theorem State.emit_cycles (s : State) (ev : Event) : (s.emit ev).cycles = s.cycles := rfl
@[simp] theorem State.emit_totalCycles (s : State) (ev : Event) : (s.emit ev).totalCycles = s.totalCycles := rfl
@[simp] theorem State.emit_intFlag (s : State) (ev : Event) : (s.emit ev).intFlag = s.intFlag := rfl
@[simp] theorem State.emit_intEnable (s : State) (ev : Event) : (s.emit ev).intEnable = s.intEnable := rfl
@[simp] theorem State.emit_wram (s : State) (ev : Event) : (s.emit ev).wram = s.wram := rfl
@[simp] theorem State.emit_hram (s : State) (ev : Event) : (s.emit ev).hram = s.hram := rfl
@[simp] theorem State.emit_display (s : State) (ev : Event) : (s.emit ev).display = s.display := rfl
@[simp] theorem State.emit_timer (s : State) (ev : Event) : (s.emit ev).timer = s.timer := rfl
@[simp] theorem State.emit_joypad (s : State) (ev : Event) : (s.emit ev).joypad = s.joypad := rfl
@[simp] theorem State.emit_mbc (s : State) (ev : Event) : (s.emit ev).mbc = s.mbc := rfl
@[simp] theorem State.emit_cram (s : State) (ev : Event) : (s.emit ev).cram = s.cram := rfl
@[simp] theorem State.emit_events (s : State) (ev : Event) : (s.emit ev).events = s.events ++ [ev] := rfl
@[simp] theorem State.emit_params (s : State) (ev : Event) : (s.emit ev).params = s.params := rfl
@[simp] theorem State.emit_draws (s : State) (ev : Event) : (s.emit ev).draws = s.draws := rfl
@[simp] theorem State.emit_hostInputs (s : State) (ev : Event) : (s.emit ev).hostInputs = s.hostInputs := rfl

/-! `setPC` -/

@[simp] theorem State.setPC_regs (s : State) (w : Word) : (s.setPC w).regs = { s.regs with pc := w } := rfl
@[simp] theorem State.setPC_ime (s : State) (w : Word) : (s.setPC w).ime = s.ime := rfl
@[simp] theorem State.setPC_halted (s : State) (w : Word) : (s.setPC w).halted = s.halted := rfl
@[simp] theorem State.setPC_bootActive (s : State) (w : Word) : (s.setPC w).bootActive = s.bootActive := rfl
@[simp] theorem State.setPC_fault (s : State) (w : Word) : (s.setPC w).fault = s.fault := rfl
@[simp] theorem State.setPC_cycles (s : State) (w : Word) : (s.setPC w).cycles = s.cycles := rfl
@[simp] theorem State.setPC_totalCycles (s : State) (w : Word) : (s.setPC w).totalCycles = s.totalCycles := rfl
@[simp] theorem State.setPC_intFlag (s : State) (w : Word) : (s.setPC w).intFlag = s.intFlag := rfl
@[simp] theorem State.setPC_intEnable (s : State) (w : Word) : (s.setPC w).intEnable = s.intEnable := rfl
@[simp] theorem State.setPC_wram (s : State) (w : Word) : (s.setPC w).wram = s.wram := rfl
@[simp] theorem State.setPC_hram (s : State) (w : Word) : (s.setPC w).hram = s.hram := rfl
@[simp] theorem State.setPC_display (s : State) (w : Word) : (s.setPC w).display = s.display := rfl
@[simp] theorem State.setPC_timer (s : State) (w : Word) : (s.setPC w).timer = s.timer := rfl
@[simp] theorem State.setPC_joypad (s : State) (w : Word) : (s.setPC w).joypad = s.joypad := rfl
@[simp] theorem State.setPC_mbc (s : State) (w : Word) : (s.setPC w).mbc = s.mbc := rfl
@[simp] theorem State.setPC_cram (s : State) (w : Word) : (s.setPC w).cram = s.cram := rfl
@[simp] theorem State.setPC_events (s : State) (w : Word) : (s.setPC w).events = s.events := rfl
@[simp] theorem State.setPC_params (s : State) (w : Word) : (s.setPC w).params = s.params := rfl
@[simp] theorem State.setPC_draws (s : State) (w : Word) : (s.setPC w).draws = s.draws := rfl
@[simp] theorem State.setPC_hostInputs (s : State) (w : Word) : (s.setPC w).hostInputs = s.hostInputs := rfl

/-! `setSP` -/

@[simp] theorem State.setSP_regs (s : State) (w : Word) : (s.setSP w).regs = { s.regs with sp := w } := rfl
@[simp] theorem State.setSP_ime (s : State) (w : Word) : (s.setSP w).ime = s.ime := rfl
@[simp] theorem State.setSP_halted (s : State) (w : Word) : (s.setSP w).halted = s.halted := rfl
@[simp] theorem State.setSP_bootActive (s : State) (w : Word) : (s.setSP w).bootActive = s.bootActive := rfl
@[simp] theorem State.setSP_fault (s : State) (w : Word) : (s.setSP w).fault = s.fault := rfl
@[simp] theorem State.setSP_cycles (s : State) (w : Word) : (s.setSP w).cycles = s.cycles := rfl
@[simp] theorem State.setSP_totalCycles (s : State) (w : Word) : (s.setSP w).totalCycles = s.totalCycles := rfl
@[simp] theorem State.setSP_intFlag (s : State) (w : Word) : (s.setSP w).intFlag = s.intFlag := rfl
@[simp] theorem State.setSP_intEnable (s : State) (w : Word) : (s.setSP w).intEnable = s.intEnable := rfl
@[simp] theorem State.setSP_wram (s : State) (w : Word) : (s.setSP w).wram = s.wram := rfl
@[simp] theorem State.setSP_hram (s : State) (w : Word) : (s.setSP w).hram = s.hram := rfl
@[simp] theorem State.setSP_display (s : State) (w : Word) : (s.setSP w).display = s.display := rfl
@[simp] theorem State.setSP_timer (s : State) (w : Word) : (s.setSP w).timer = s.timer := rfl
@[simp] theorem State.setSP_joypad (s : State) (w : Word) : (s.setSP w).joypad = s.joypad := rfl
@[simp] theorem State.setSP_mbc (s : State) (w : Word) : (s.setSP w).mbc = s.mbc := rfl
@[simp] theorem State.setSP_cram (s : State) (w : Word) : (s.setSP w).cram = s.cram := rfl
@[simp] theorem State.setSP_events (s : State) (w : Word) : (s.setSP w).events = s.events := rfl
@[simp] theorem State.setSP_params (s : State) (w : Word) : (s.setSP w).params = s.params := rfl
@[simp] theorem State.setSP_draws (s : State) (w : Word) : (s.setSP w).draws = s.draws := rfl
@[simp] theorem State.setSP_hostInputs (s : State) (w : Word) : (s.setSP w).hostInputs = s.hostInputs := rfl

/-! `setReg` -/

@[simp] theorem State.setReg_regs (s : State) (r : R8) (v : Byte) : (s.setReg r v).regs = s.regs.set r v := rfl
@[simp] theorem State.setReg_ime (s : State) (r : R8) (v : Byte) : (s.setReg r v).ime = s.ime := rfl
@[simp] theorem State.setReg_halted (s : State) (r : R8) (v : Byte) : (s.setReg r v).halted = s.halted := rfl
@[simp] theorem State.setReg_bootActive (s : State) (r : R8) (v : Byte) : (s.setReg r v).bootActive = s.bootActive := rfl
@[simp] theorem State.setReg_fault (s : State) (r : R8) (v : Byte) : (s.setReg r v).fault = s.fault := rfl
@[simp] theorem State.setReg_cycles (s : State) (r : R8) (v : Byte) : (s.setReg r v).cycles = s.cycles := rfl
@[simp] theorem State.setReg_totalCycles (s : State) (r : R8) (v : Byte) : (s.setReg r v).totalCycles = s.totalCycles := rfl
@[simp] theorem State.setReg_intFlag (s : State) (r : R8) (v : Byte) : (s.setReg r v).intFlag = s.intFlag := rfl
@[simp] theorem State.setReg_intEnable (s : State) (r : R8) (v : Byte) : (s.setReg r v).intEnable = s.intEnable := rfl
@[simp] theorem State.setReg_wram (s : State) (r : R8) (v : Byte) : (s.setReg r v).wram = s.wram := rfl
@[simp] theorem State.setReg_hram (s : State) (r : R8) (v : Byte) : (s.setReg r v).hram = s.hram := rfl
@[simp] theorem State.setReg_display (s : State) (r : R8) (v : Byte) : (s.setReg r v).display = s.display := rfl
@[simp] theorem State.setReg_timer (s : State) (r : R8) (v : Byte) : (s.setReg r v).timer = s.timer := rfl
@[simp] theorem State.setReg_joypad (s : State) (r : R8) (v : Byte) : (s.setReg r v).joypad = s.joypad := rfl
@[simp] theorem State.setReg_mbc (s : State) (r : R8) (v : Byte) : (s.setReg r v).mbc = s.mbc := rfl
@[simp] theorem State.setReg_cram (s : State) (r : R8) (v : Byte) : (s.setReg r v).cram = s.cram := rfl
@[simp] theorem State.setReg_events (s : State) (r : R8) (v : Byte) : (s.setReg r v).events = s.events := rfl
@[simp] theorem State.setReg_params (s : State) (r : R8) (v : Byte) : (s.setReg r v).params = s.params := rfl
@[simp] theorem State.setReg_draws (s : State) (r : R8) (v : Byte) : (s.setReg r v).draws = s.draws := rfl
@[simp] theorem State.setReg_hostInputs (s : State) (r : R8) (v : Byte) : (s.setReg r v).hostInputs = s.hostInputs := rfl

/-! `setHL` -/

@[simp] theorem State.setHL_regs (s : State) (w : Word) : (s.setHL w).regs = s.regs.setHL w := rfl
@[simp] theorem State.setHL_ime (s : State) (w : Word) : (s.setHL w).ime = s.ime := rfl
@[simp] theorem State.setHL_halted (s : State) (w : Word) : (s.setHL w).halted = s.halted := rfl
@[simp] theorem State.setHL_bootActive (s : State) (w : Word) : (s.setHL w).bootActive = s.bootActive := rfl
@[simp] theorem State.setHL_fault (s : State) (w : Word) : (s.setHL w).fault = s.fault := rfl
@[simp] theorem State.setHL_cycles (s : State) (w : Word) : (s.setHL w).cycles = s.cycles := rfl
@[simp] theorem State.setHL_totalCycles (s : State) (w : Word) : (s.setHL w).totalCycles = s.totalCycles := rfl
@[simp] theorem State.setHL_intFlag (s : State) (w : Word) : (s.setHL w).intFlag = s.intFlag := rfl
@[simp] theorem State.setHL_intEnable (s : State) (w : Word) : (s.setHL w).intEnable = s.intEnable := rfl
@[simp] theorem State.setHL_wram (s : State) (w : Word) : (s.setHL w).wram = s.wram := rfl
@[simp] theorem State.setHL_hram (s : State) (w : Word) : (s.setHL w).hram = s.hram := rfl
@[simp] theorem State.setHL_display (s : State) (w : Word) : (s.setHL w).display = s.display := rfl
@[simp] theorem State.setHL_timer (s : State) (w : Word) : (s.setHL w).timer = s.timer := rfl
@[simp] theorem State.setHL_joypad (s : State) (w : Word) : (s.setHL w).joypad = s.joypad := rfl
@[simp] theorem State.setHL_mbc (s : State) (w : Word) : (s.setHL w).mbc = s.mbc := rfl
@[simp] theorem State.setHL_cram (s : State) (w : Word) : (s.setHL w).cram = s.cram := rfl
@[simp] theorem State.setHL_events (s : State) (w : Word) : (s.setHL w).events = s.events := rfl
@[simp] theorem State.setHL_params (s : State) (w : Word) : (s.setHL w).params = s.params := rfl
@[simp] theorem State.setHL_draws (s : State) (w : Word) : (s.setHL w).draws = s.draws := rfl
@[simp] theorem State.setHL_hostInputs (s : State) (w : Word) : (s.setHL w).hostInputs = s.hostInputs := rfl

/-! `setF` -/

@[simp] theorem State.setF_regs (s : State) (v : Byte) : (s.setF v).regs = { s.regs with f := v } := rfl
@[simp] theorem State.setF_ime (s : State) (v : Byte) : (s.setF v).ime = s.ime := rfl
@[simp] theorem State.setF_halted (s : State) (v : Byte) : (s.setF v).halted = s.halted := rfl
@[simp] theorem State.setF_bootActive (s : State) (v : Byte) : (s.setF v).bootActive = s.bootActive := rfl
@[simp] theorem State.setF_fault (s : State) (v : Byte) : (s.setF v).fault = s.fault := rfl
@[simp] theorem State.setF_cycles (s : State) (v : Byte) : (s.setF v).cycles = s.cycles := rfl
@[simp] theorem State.setF_totalCycles (s : State) (v : Byte) : (s.setF v).totalCycles = s.totalCycles := rfl
@[simp] theorem State.setF_intFlag (s : State) (v : Byte) : (s.setF v).intFlag = s.intFlag := rfl
@[simp] theorem State.setF_intEnable (s : State) (v : Byte) : (s.setF v).intEnable = s.intEnable := rfl
@[simp] theorem State.setF_wram (s : State) (v : Byte) : (s.setF v).wram = s.wram := rfl
@[simp] theorem State.setF_hram (s : State) (v : Byte) : (s.setF v).hram = s.hram := rfl
@[simp] theorem State.setF_display (s : State) (v : Byte) : (s.setF v).display = s.display := rfl
@[simp] theorem State.setF_timer (s : State) (v : Byte) : (s.setF v).timer = s.timer := rfl
@[simp] theorem State.setF_joypad (s : State) (v : Byte) : (s.setF v).joypad = s.joypad := rfl
@[simp] theorem State.setF_mbc (s : State) (v : Byte) : (s.setF v).mbc = s.mbc := rfl
@[simp] theorem State.setF_cram (s : State) (v : Byte) : (s.setF v).cram = s.cram := rfl
@[simp] theorem State.setF_events (s : State) (v : Byte) : (s.setF v).events = s.events := rfl
@[simp] theorem State.setF_params (s : State) (v : Byte) : (s.setF v).params = s.params := rfl
@[simp] theorem State.setF_draws (s : State) (v : Byte) : (s.setF v).draws = s.draws := rfl
@[simp] theorem State.setF_hostInputs (s : State) (v : Byte) : (s.setF v).hostInputs = s.hostInputs := rfl

/-! `raiseIRQ` -/

@[simp] theorem State.raiseIRQ_regs (s : State) (k : Nat) : (s.raiseIRQ k).regs = s.regs := rfl
@[simp] theorem State.raiseIRQ_ime (s : State) (k : Nat) : (s.raiseIRQ k).ime = s.ime := rfl
@[simp] theorem State.raiseIRQ_halted (s : State) (k : Nat) : (s.raiseIRQ k).halted = false := rfl
@[simp] theorem State.raiseIRQ_bootActive (s : State) (k : Nat) : (s.raiseIRQ k).bootActive = s.bootActive := rfl
@[simp] theorem State.raiseIRQ_fault (s : State) (k : Nat) : (s.raiseIRQ k).fault = s.fault := rfl
@[simp] theorem State.raiseIRQ_cycles (s : State) (k : Nat) : (s.raiseIRQ k).cycles = s.cycles := rfl
@[simp] theorem State.raiseIRQ_totalCycles (s : State) (k : Nat) : (s.raiseIRQ k).totalCycles = s.totalCycles := rfl
@[simp] theorem State.raiseIRQ_intFlag (s : State) (k : Nat) : (s.raiseIRQ k).intFlag = s.intFlag ||| bitMask k := rfl
@[simp] theorem State.raiseIRQ_intEnable (s : State) (k : Nat) : (s.raiseIRQ k).intEnable = s.intEnable := rfl
@[simp] theorem State.raiseIRQ_wram (s : State) (k : Nat) : (s.raiseIRQ k).wram = s.wram := rfl
@[simp] theorem State.raiseIRQ_hram (s : State) (k : Nat) : (s.raiseIRQ k).hram = s.hram := rfl
@[simp] theorem State.raiseIRQ_display (s : State) (k : Nat) : (s.raiseIRQ k).display = s.display := rfl
@[simp] theorem State.raiseIRQ_timer (s : State) (k : Nat) : (s.raiseIRQ k).timer = s.timer := rfl
@[simp] theorem State.raiseIRQ_joypad (s : State) (k : Nat) : (s.raiseIRQ k).joypad = s.joypad := rfl
@[simp] theorem State.raiseIRQ_mbc (s : State) (k : Nat) : (s.raiseIRQ k).mbc = s.mbc := rfl
@[simp] theorem State.raiseIRQ_cram (s : State) (k : Nat) : (s.raiseIRQ k).cram = s.cram := rfl
@[simp] theorem State.raiseIRQ_events (s : State) (k : Nat) : (s.raiseIRQ k).events = s.events := rfl
@[simp] theorem State.raiseIRQ_params (s : State) (k : Nat) : (s.raiseIRQ k).params = s.params := rfl
@[simp] theorem State.raiseIRQ_draws (s : State) (k : Nat) : (s.raiseIRQ k).draws = s.draws := rfl
@[simp] theorem State.raiseIRQ_hostInputs (s : State) (k : Nat) : (s.raiseIRQ k).hostInputs = s.hostInputs := rfl

/-! The register file (rule R20). -/

@[simp] theorem Regs.get_set_same (r : Regs) (i : R8) (v : Byte) : (r.set i v).get i = v := by cases i <;> rfl

theorem Regs.get_set_ne (r : Regs) {i j : R8} (v : Byte) (h : j ≠ i) : (r.set i v).get j = r.get j := by
  cases i <;> cases j <;> first | rfl | exact absurd rfl h

@[simp] theorem Regs.set_f (r : Regs) (i : R8) (v : Byte) : (r.set i v).f = r.f := by cases i <;> rfl
@[simp] theorem Regs.set_sp (r : Regs) (i : R8) (v : Byte) : (r.set i v).sp = r.sp := by cases i <;> rfl
@[simp] theorem Regs.set_pc (r : Regs) (i : R8) (v : Byte) : (r.set i v).pc = r.pc := by cases i <;> rfl

/-! The pair views (rule R21). -/

theorem hiByte_toNat (w : Word) : (hiByte w).toNat = w.toNat / 256 := by
  have h := w.isLt
  simp only [hiByte, BitVec.extractLsb'_toNat, Nat.shiftRight_eq_div_pow]
  omega

theorem loByte_toNat (w : Word) : (loByte w).toNat = w.toNat % 256 := by
  simp [loByte, BitVec.extractLsb'_toNat]

theorem joinBytes_toNat (x y : Byte) : (joinBytes x y).toNat = x.toNat * 256 + y.toNat := by
  have h := Nat.shiftLeft_add_eq_or_of_lt y.isLt x.toNat
  rw [joinBytes, BitVec.toNat_append, ← h, Nat.shiftLeft_eq]

@[simp] theorem hiByte_joinBytes (x y : Byte) : hiByte (joinBytes x y) = x := by
  apply BitVec.eq_of_toNat_eq
  rw [hiByte_toNat, joinBytes_toNat]
  omega

@[simp] theorem loByte_joinBytes (x y : Byte) : loByte (joinBytes x y) = y := by
  apply BitVec.eq_of_toNat_eq
  rw [loByte_toNat, joinBytes_toNat]
  omega

@[simp] theorem joinBytes_hiByte_loByte (w : Word) : joinBytes (hiByte w) (loByte w) = w := by
  apply BitVec.eq_of_toNat_eq
  rw [joinBytes_toNat, hiByte_toNat, loByte_toNat]
  omega

@[simp] theorem Regs.setBC_f (r : Regs) (w : Word) : (r.setBC w).f = r.f := rfl
@[simp] theorem Regs.setDE_f (r : Regs) (w : Word) : (r.setDE w).f = r.f := rfl
@[simp] theorem Regs.setHL_f (r : Regs) (w : Word) : (r.setHL w).f = r.f := rfl
@[simp] theorem Regs.setPair_f (r : Regs) (p : R16) (w : Word) : (r.setPair p w).f = r.f := by cases p <;> rfl
@[simp] theorem Regs.setPair_a (r : Regs) (p : R16) (w : Word) : (r.setPair p w).a = r.a := by cases p <;> rfl
@[simp] theorem Regs.setPair_pc (r : Regs) (p : R16) (w : Word) : (r.setPair p w).pc = r.pc := by cases p <;> rfl

theorem Regs.getPair_setPair (r : Regs) (p : R16) (w : Word) : (r.setPair p w).getPair p = w := by
  cases p
  case sp => rfl
  all_goals exact joinBytes_hiByte_loByte w

theorem Regs.getPair_setPair_ne (r : Regs) {p q : R16} (w : Word) (h : q ≠ p) :
    (r.setPair p w).getPair q = r.getPair q := by
  cases p <;> cases q <;> first | rfl | exact absurd rfl h

end Sys2Proof.Machine
end

