-- ==== Sys2Proof/Laws/Bus.lean ====
section
/-! SUPPORT. What a bus access depends on and what it leaves alone. -/

namespace Sys2Proof.Machine

/-! A write depends on no CPU state and changes none: it commutes with every update of it. -/

theorem State.busWrite_update (s : State) (r : Regs) (ime halted : Bool) (fault : Option Fault) (cycles total draws : Nat)
    (inputs : List (Option Buttons)) (x : Word) (v : Byte) :
    State.busWrite { s with regs := r, ime := ime, halted := halted, fault := fault, cycles := cycles,
                            totalCycles := total, draws := draws, hostInputs := inputs } x v =
      { s.busWrite x v with regs := r, ime := ime, halted := halted, fault := fault, cycles := cycles,
                            totalCycles := total, draws := draws, hostInputs := inputs } := by
  unfold State.busWrite State.writeCartRam
  cases region x <;> first | rfl | (split <;> rfl) | (dsimp only; split <;> rfl)

section
variable (s : State) (x : Word) (v : Byte)

@[simp] theorem State.busWrite_regs : (s.busWrite x v).regs = s.regs := by
  unfold State.busWrite State.writeCartRam
  split <;> first | rfl | (split <;> rfl)

@[simp] theorem State.busWrite_ime : (s.busWrite x v).ime = s.ime := by
  unfold State.busWrite State.writeCartRam
  split <;> first | rfl | (split <;> rfl)

@[simp] theorem State.busWrite_halted : (s.busWrite x v).halted = s.halted := by
  unfold State.busWrite State.writeCartRam
  split <;> first | rfl | (split <;> rfl)

@[simp] theorem State.busWrite_fault : (s.busWrite x v).fault = s.fault := by
  unfold State.busWrite State.writeCartRam
  split <;> first | rfl | (split <;> rfl)

@[simp] theorem State.busWrite_cycles : (s.busWrite x v).cycles = s.cycles := by
  unfold State.busWrite State.writeCartRam
  split <;> first | rfl | (split <;> rfl)

@[simp] theorem State.busWrite_totalCycles : (s.busWrite x v).totalCycles = s.totalCycles := by
  unfold State.busWrite State.writeCartRam
  split <;> first | rfl | (split <;> rfl)

@[simp] theorem State.busWrite_params : (s.busWrite x v).params = s.params := by
  unfold State.busWrite State.writeCartRam
  split <;> first | rfl | (split <;> rfl)

@[simp] theorem State.busWrite_draws : (s.busWrite x v).draws = s.draws := by
  unfold State.busWrite State.writeCartRam
  split <;> first | rfl | (split <;> rfl)

@[simp] theorem State.busWrite_hostInputs : (s.busWrite x v).hostInputs = s.hostInputs := by
  unfold State.busWrite State.writeCartRam
  split <;> first | rfl | (split <;> rfl)

end

/-! A read depends on the storage and the devices only. -/

theorem State.busRead_update (s : State) (r : Regs) (ime halted boot : Bool) (fault : Option Fault) (cycles total : Nat)
    (events : List Event) (inputs : List (Option Buttons)) (a : Word) :
    State.busRead { s with regs := r, ime := ime, halted := halted, bootActive := boot, fault := fault, cycles := cycles,
                           totalCycles := total, events := events, hostInputs := inputs } a = s.busRead a := by
  unfold State.busRead State.readCartRam
  cases region a <;> rfl

/-- Outside the audio range a read does not depend on how many free values have been taken. -/
theorem State.busRead_draws (s : State) (n : Nat) {a : Word} (h : region a ≠ .audio) :
    State.busRead { s with draws := n } a = s.busRead a := by
  unfold State.busRead State.readCartRam
  revert h
  cases region a <;> intro h <;> first | rfl | exact absurd rfl h

/-- A read leaves no trace but, in the audio range, the next free value. -/
theorem State.afterRead_eq (s : State) (a : Word) : ∃ n, s.afterRead a = { s with draws := n } := by
  unfold State.afterRead
  split
  · exact ⟨_, rfl⟩
  · exact ⟨s.draws, rfl⟩

theorem State.afterRead_of_ne (s : State) {a : Word} (h : region a ≠ .audio) : s.afterRead a = s := by
  unfold State.afterRead
  split
  · rename_i h'
    exact absurd h' h
  · rfl

theorem State.afterRead_update (s : State) (r : Regs) (ime halted : Bool) (fault : Option Fault) (cycles total : Nat)
    (inputs : List (Option Buttons)) (a : Word) :
    State.afterRead { s with regs := r, ime := ime, halted := halted, fault := fault, cycles := cycles,
                             totalCycles := total, hostInputs := inputs } a =
      { s.afterRead a with regs := r, ime := ime, halted := halted, fault := fault, cycles := cycles,
                           totalCycles := total, hostInputs := inputs } := by
  unfold State.afterRead
  cases region a <;> rfl

theorem State.memRead_update (s : State) (r : Regs) (ime halted : Bool) (fault : Option Fault) (cycles total : Nat)
    (events : List Event) (inputs : List (Option Buttons)) (a : Word) :
    State.memRead { s with regs := r, ime := ime, halted := halted, fault := fault, cycles := cycles,
                           totalCycles := total, events := events, hostInputs := inputs } a = s.memRead a := by
  unfold State.memRead
  split
  · rfl
  · exact State.busRead_update s r ime halted s.bootActive fault cycles total events inputs a

section
variable (s : State) (a : Word)

@[simp] theorem State.afterRead_regs : (s.afterRead a).regs = s.regs := by
  obtain ⟨n, h⟩ := s.afterRead_eq a; rw [h]

@[simp] theorem State.afterRead_ime : (s.afterRead a).ime = s.ime := by
  obtain ⟨n, h⟩ := s.afterRead_eq a; rw [h]

@[simp] theorem State.afterRead_cycles : (s.afterRead a).cycles = s.cycles := by
  obtain ⟨n, h⟩ := s.afterRead_eq a; rw [h]

@[simp] theorem State.afterRead_params : (s.afterRead a).params = s.params := by
  obtain ⟨n, h⟩ := s.afterRead_eq a; rw [h]

@[simp] theorem State.afterRead_mbc : (s.afterRead a).mbc = s.mbc := by
  obtain ⟨n, h⟩ := s.afterRead_eq a; rw [h]

@[simp] theorem State.afterRead_bootActive : (s.afterRead a).bootActive = s.bootActive := by
  obtain ⟨n, h⟩ := s.afterRead_eq a; rw [h]

end

/-- Reading an address changes no byte. -/
theorem State.sameBytes_afterRead (s : State) (x : Word) : s.sameBytes (s.afterRead x) := by
  intro a ha
  obtain ⟨n, h⟩ := s.afterRead_eq x
  rw [h]
  exact s.busRead_draws n ha

/-! What a write leaves alone. -/

theorem region_rom {a : Word} (h : a.toNat ≤ 0x7FFF) : region a = .rom := if_pos h

/-- The fixed ROM window reads bank 0 whatever the bank controller holds (rule R355). -/
theorem romOffset_fixed (p : Params) (m : Mbc) {a : Nat} (h : a ≤ 0x3FFF) : romOffset p m a = a := if_pos h

theorem Rtc.get_set (r : Rtc) (k j : Nat) (v : Byte) (hk : k < 5) (hj : j < 5) :
    (r.set k v).get j = if j = k then v else r.get j := by
  have h : ∀ k < 5, ∀ j < 5, (r.set k v).get j = if j = k then v else r.get j := by
    intro k hk j hj
    interval_cases k <;> interval_cases j <;> rfl
  exact h k hk j hj

/-- Writing a clock register changes neither a bank nor what the window reaches. -/
theorem Mbc.romBank_setClock (m : Mbc) (k : Nat) (v : Byte) : (m.setClock k v).romBank = m.romBank := by
  cases m <;> rfl

theorem ramTarget_setClock (p : Params) (m : Mbc) (k : Nat) (v : Byte) (a : Nat) :
    ramTarget p (m.setClock k v) a = ramTarget p m a := by
  cases m <;> rfl

theorem romOffset_setClock (p : Params) (m : Mbc) (k : Nat) (v : Byte) (a : Nat) :
    romOffset p (m.setClock k v) a = romOffset p m a := by
  cases m <;> rfl

/-- A clock register is one of five (rule R380). -/
theorem ramTarget_clock_lt {p : Params} {m : Mbc} {a k : Nat} (h : ramTarget p m a = .clock k) : k < 5 := by
  unfold ramTarget bankedCell at h
  cases m with
  | romOnly => cases h
  | type1 r => dsimp only at h; split at h <;> (try split at h) <;> cases h
  | type2 r => dsimp only at h; split at h <;> cases h
  | type3 r =>
    dsimp only at h
    split at h
    · split at h
      · split at h <;> cases h
      · split at h
        · rename_i h1
          have := RamTarget.clock.inj h
          omega
        · cases h
    · cases h

/-- Only a type 3 cartridge has clock registers. -/
theorem ramTarget_clock_type3 {p : Params} {m : Mbc} {a k : Nat} (h : ramTarget p m a = .clock k) :
    ∃ r, m = .type3 r := by
  cases m with
  | romOnly => cases h
  | type1 r => simp only [ramTarget, bankedCell] at h; split at h <;> (try split at h) <;> cases h
  | type2 r => simp only [ramTarget] at h; split at h <;> cases h
  | type3 r => exact ⟨r, rfl⟩

/-- A cell and a nibble cell never stand for one offset: the variant has the one or the other. -/
theorem ramTarget_not_both {p : Params} {m : Mbc} {a b i j : Nat} (h : ramTarget p m a = .cell i)
    (h' : ramTarget p m b = .nibble j) : False := by
  unfold ramTarget bankedCell at h h'
  cases m with
  | romOnly => cases h
  | type1 r => dsimp only at h'; split at h' <;> (try split at h') <;> cases h'
  | type2 r => dsimp only at h; split at h <;> cases h
  | type3 r =>
    dsimp only at h'
    split at h'
    · split at h'
      · split at h' <;> cases h'
      · split at h' <;> cases h'
    · cases h'

/-- A write into the RAM window changes, of the window, only what its own target reaches. -/
theorem State.readCartRam_writeCartRam (s : State) (x a : Word) (v : Byte)
    (h : ramTarget s.params s.mbc x.toNat = .nothing ∨
      ramTarget s.params s.mbc x.toNat ≠ ramTarget s.params s.mbc a.toNat) :
    (s.writeCartRam x v).readCartRam a = s.readCartRam a := by
  unfold State.writeCartRam
  cases hx : ramTarget s.params s.mbc x.toNat with
  | nothing => rfl
  | cell i =>
    simp only [hx, reduceCtorEq, false_or] at h
    unfold State.readCartRam
    dsimp only
    cases ha : ramTarget s.params s.mbc a.toNat with
    | nothing => rfl
    | cell j =>
      rw [ha] at h
      exact Memory.read_write_ne _ (fun hji => h (by rw [hji])) v
    | nibble j => exact (ramTarget_not_both hx ha).elim
    | clock k => rfl
  | nibble i =>
    simp only [hx, reduceCtorEq, false_or] at h
    unfold State.readCartRam
    dsimp only
    cases ha : ramTarget s.params s.mbc a.toNat with
    | nothing => rfl
    | cell j => exact (ramTarget_not_both ha hx).elim
    | nibble j =>
      rw [ha] at h
      dsimp only
      rw [Memory.read_write_ne _ (fun hji => h (by rw [hji])) _]
    | clock k => rfl
  | clock i =>
    simp only [hx, reduceCtorEq, false_or] at h
    unfold State.readCartRam
    dsimp only
    rw [ramTarget_setClock]
    cases ha : ramTarget s.params s.mbc a.toNat with
    | nothing => rfl
    | cell j => rfl
    | nibble j => rfl
    | clock k =>
      rw [ha] at h
      obtain ⟨r, hr⟩ := ramTarget_clock_type3 hx
      have hi := ramTarget_clock_lt hx
      have hk := ramTarget_clock_lt ha
      simp only [hr, Mbc.setClock, Mbc.clock]
      rw [Rtc.get_set _ _ _ _ hi hk, if_neg (fun hki => h (by rw [hki]))]

theorem Timer.read_write_ne (t : Timer) {r q : TimerReg} (h : q ≠ r) (v : Byte) : (t.write r v).read q = t.read q := by
  cases r <;> cases q <;> first | rfl | exact absurd rfl h

theorem Display.readReg_writeReg_ne (d : Display) {r q : DisplayReg} (h : q ≠ r) (v : Byte) :
    (d.writeReg r v).readReg q = d.readReg q := by
  cases r <;> cases q <;> first | rfl | exact absurd rfl h

@[simp] theorem Display.writeReg_vram (d : Display) (r : DisplayReg) (v : Byte) : (d.writeReg r v).vram = d.vram := by
  cases r <;> rfl

@[simp] theorem Display.writeReg_oam (d : Display) (r : DisplayReg) (v : Byte) : (d.writeReg r v).oam = d.oam := by
  cases r <;> rfl

/-- Every address outside what a write reaches reads as before. -/
theorem State.busRead_busWrite_outside (s : State) {x a : Word} (v : Byte) (h : s.outside x a) :
    (s.busWrite x v).busRead a = s.busRead a := by
  unfold State.outside State.storesNothing at h
  unfold State.busWrite
  cases hx : region x with
  | rom =>
    simp only [hx, false_or] at h
    unfold State.busRead
    cases hr : region a with
    | rom =>
      simp only [hr, ne_eq, not_true_eq_false, false_and, or_false] at h
      simp only [romOffset_fixed _ _ h]
    | cartRam =>
      rcases h with h | h
      · exfalso
        rw [region_rom (Nat.le_trans h (by decide))] at hr
        cases hr
      · exact absurd hr h.2
    | _ => rfl
  | vram i =>
    simp only [hx, false_or] at h
    unfold State.busRead
    cases hr : region a with
    | vram j => exact Memory.read_write_ne _ (fun hji => h (by rw [hr, hji])) v
    | display r => cases r <;> rfl
    | _ => rfl
  | cartRam =>
    simp only [hx] at h
    unfold State.busRead
    dsimp only
    cases hr : region a with
    | cartRam =>
      refine State.readCartRam_writeCartRam s x a v ?_
      rcases h with h | h
      · exact .inl h
      · exact .inr (h hr)
    | rom =>
      dsimp only
      unfold State.writeCartRam
      split <;> first | rw [romOffset_setClock] | rfl
    | _ =>
      dsimp only
      unfold State.writeCartRam
      split <;> rfl
  | wram i =>
    simp only [hx, false_or] at h
    unfold State.busRead
    cases hr : region a with
    | wram j => exact Memory.read_write_ne _ (fun hji => h (by rw [hr, hji])) v
    | _ => rfl
  | oam i =>
    simp only [hx, false_or] at h
    unfold State.busRead
    cases hr : region a with
    | oam j => exact Memory.read_write_ne _ (fun hji => h (by rw [hr, hji])) v
    | display r => cases r <;> rfl
    | _ => rfl
  | joypad =>
    simp only [hx, false_or] at h
    unfold State.busRead
    cases hr : region a with
    | joypad => exact absurd hr h
    | _ => rfl
  | timer r =>
    simp only [hx, false_or] at h
    unfold State.busRead
    cases hr : region a with
    | timer q => exact Timer.read_write_ne _ (fun hq => h (by rw [hr, hq])) v
    | _ => rfl
  | intFlag =>
    simp only [hx, false_or] at h
    unfold State.busRead
    cases hr : region a with
    | intFlag => exact absurd hr h
    | _ => rfl
  | audio =>
    unfold State.busRead
    cases hr : region a with
    | _ => rfl
  | display r =>
    unfold State.busRead
    cases hr : region a with
    | display q =>
      by_cases hq : q = r
      · subst hq
        simp only [hx, hr, ne_eq, not_true_eq_false, or_false] at h
        cases q with
        | ly => rfl
        | _ => exact h.elim
      · exact Display.readReg_writeReg_ne _ hq v
    | vram j => simp
    | oam j => simp
    | _ => rfl
  | bootLock =>
    dsimp only
    by_cases hv : v.getLsbD 0 = true
    · rw [if_pos hv]
      exact State.busRead_update s s.regs s.ime s.halted false s.fault s.cycles s.totalCycles s.events s.hostInputs a
    · rw [if_neg hv]
  | hram i =>
    simp only [hx, false_or] at h
    unfold State.busRead
    cases hr : region a with
    | hram j => exact Memory.read_write_ne _ (fun hji => h (by rw [hr, hji])) v
    | _ => rfl
  | intEnable =>
    simp only [hx, false_or] at h
    unfold State.busRead
    cases hr : region a with
    | intEnable => exact absurd hr h
    | _ => rfl
  | unmapped => rfl

end Sys2Proof.Machine
end

