-- ==== Sys2Proof/Laws/Shapes.lean ====
section
/-! SUPPORT. How the shapes of completion (Safety.lean) follow from what exec answers, and the stack operations as two accesses. -/

namespace Sys2Proof.Machine

/-! The RAM window's target is decided by the bank registers, which only a control write changes. -/

theorem State.ramTarget_busWrite (s : State) {x : Word} (v : Byte) (hx : region x ≠ .rom) (a : Nat) :
    ramTarget (s.busWrite x v).params (s.busWrite x v).mbc a = ramTarget s.params s.mbc a := by
  rw [State.busWrite_params]
  unfold State.busWrite State.writeCartRam
  revert hx
  cases region x <;> intro hx <;>
    first | rfl | exact absurd rfl hx | (dsimp only; split <;> first | rw [ramTarget_setClock] | rfl)

theorem State.outside_busWrite (s : State) {x y a : Word} (v : Byte) (hxy : region x = .rom → region y ≠ .cartRam)
    (h : s.outside y a) : (s.busWrite x v).outside y a := by
  by_cases hx : region x = .rom
  · have hy := hxy hx
    unfold State.outside State.storesNothing at h ⊢
    revert h hy
    cases region y with
    | cartRam => intro h hy; exact absurd rfl hy
    | display r => intro h _; cases r <;> exact h
    | _ => intro h _; exact h
  · unfold State.outside State.storesNothing at h ⊢
    revert h
    cases region y with
    | cartRam => intro h; simpa only [State.ramTarget_busWrite s v hx] using h
    | display r => intro h; cases r <;> exact h
    | _ => intro h; exact h

theorem ite_region_ne {c : Prop} [Decidable c] {x y z : Region} (hx : x ≠ z) (hy : y ≠ z) :
    (if c then x else y) ≠ z := by
  split
  · exact hx
  · exact hy

theorem ioRegion_ne_cartRam (a : Nat) : ioRegion a ≠ .cartRam := by
  unfold ioRegion
  repeat' apply ite_region_ne
  all_goals exact Region.noConfusion

theorem region_cartRam_iff (a : Word) : region a = .cartRam ↔ 0xA000 ≤ a.toNat ∧ a.toNat ≤ 0xBFFF := by
  constructor
  · intro h
    unfold region at h
    dsimp only at h
    by_cases h1 : a.toNat ≤ 0x7FFF
    · rw [if_pos h1] at h; cases h
    by_cases h2 : a.toNat ≤ 0x9FFF
    · rw [if_neg h1, if_pos h2] at h; cases h
    by_cases h3 : a.toNat ≤ 0xBFFF
    · omega
    rw [if_neg h1, if_neg h2, if_neg h3] at h
    by_cases h4 : a.toNat ≤ 0xDFFF
    · rw [if_pos h4] at h; cases h
    by_cases h5 : a.toNat ≤ 0xFDFF
    · rw [if_neg h4, if_pos h5] at h; cases h
    by_cases h6 : a.toNat ≤ 0xFE9F
    · rw [if_neg h4, if_neg h5, if_pos h6] at h; cases h
    by_cases h7 : a.toNat ≤ 0xFEFF
    · rw [if_neg h4, if_neg h5, if_neg h6, if_pos h7] at h; cases h
    by_cases h8 : a.toNat ≤ 0xFF7F
    · rw [if_neg h4, if_neg h5, if_neg h6, if_neg h7, if_pos h8] at h
      exact absurd h (ioRegion_ne_cartRam _)
    by_cases h9 : a.toNat ≤ 0xFFFE
    · rw [if_neg h4, if_neg h5, if_neg h6, if_neg h7, if_neg h8, if_pos h9] at h; cases h
    rw [if_neg h4, if_neg h5, if_neg h6, if_neg h7, if_neg h8, if_neg h9] at h
    cases h
  · rintro ⟨h1, h2⟩
    unfold region
    dsimp only
    rw [if_neg (by omega), if_neg (by omega), if_pos h2]

/-! Reading alike. -/

theorem State.sameBytes_update (s : State) (r : Regs) (ime halted boot : Bool) (fault : Option Fault) (cycles total : Nat)
    (events : List Event) (inputs : List (Option Buttons)) :
    s.sameBytes { s with regs := r, ime := ime, halted := halted, bootActive := boot, fault := fault, cycles := cycles,
                         totalCycles := total, events := events, hostInputs := inputs } :=
  fun a _ => State.busRead_update s r ime halted boot fault cycles total events inputs a

theorem State.sameBytes_trans {s t u : State} (h : s.sameBytes t) (h' : t.sameBytes u) : s.sameBytes u :=
  fun a ha => (h' a ha).trans (h a ha)

theorem State.sameBytesBut_of_sameBytes {s t u : State} {xs : List Word} (h : s.sameBytesBut t xs) (h' : t.sameBytes u) :
    s.sameBytesBut u xs :=
  fun a ha hx => (h' a ha).trans (h a ha hx)

theorem State.sameBytesBut_busWrite (s : State) (x : Word) (v : Byte) : s.sameBytesBut (s.busWrite x v) [x] :=
  fun _ _ hx => State.busRead_busWrite_outside s v (hx x (by simp))

theorem State.sameBytesBut_busWrite_busWrite (s : State) (x y : Word) (v w : Byte)
    (hxy : region x = .rom → region y ≠ .cartRam) :
    s.sameBytesBut ((s.busWrite x v).busWrite y w) [x, y] := by
  intro a _ h
  rw [State.busRead_busWrite_outside _ w (State.outside_busWrite s v hxy (h y (by simp))),
    State.busRead_busWrite_outside s v (h x (by simp))]

/-- A control write's neighbour is not in the RAM window. -/
theorem region_rom_succ {x : Word} (h : region x = .rom) : region (x + 1) ≠ .cartRam := by
  intro hc
  rw [region_cartRam_iff] at hc
  have hx : x.toNat ≤ 0x7FFF := by
    by_contra hn
    unfold region at h
    dsimp only at h
    rw [if_neg (by omega)] at h
    revert h
    repeat' apply ite_region_ne
    all_goals exact Region.noConfusion
  have : (x + 1).toNat = x.toNat + 1 := by bv_omega
  omega

theorem region_rom_pred {x : Word} (h : region (x + 1) = .rom) : region x ≠ .cartRam := by
  intro hc
  rw [region_cartRam_iff] at hc
  have h2 : (x + 1).toNat = x.toNat + 1 := by bv_omega
  have : region (x + 1) = .cartRam ∨ 0xC000 ≤ (x + 1).toNat := by
    by_cases h' : (x + 1).toNat ≤ 0xBFFF
    · exact .inl ((region_cartRam_iff _).2 ⟨by omega, h'⟩)
    · exact .inr (by omega)
  rcases this with h' | h'
  · rw [h'] at h; cases h
  · have : x.toNat = 0xBFFF := by omega
    have hx : x = 0xBFFF := by apply BitVec.eq_of_toNat_eq; simpa using this
    rw [hx] at h
    exact absurd h (by decide)

/-! The stack (rule R154). -/

/-- `Push16` is two writes below SP. -/
theorem State.push16_eq (s : State) (w : Word) :
    s.push16 w =
      { (s.busWrite (s.regs.sp - 1) (hiByte w)).busWrite (s.regs.sp - 2) (loByte w) with
        regs := { s.regs with sp := s.regs.sp - 2 } } := by
  have h2 : s.regs.sp - 1 - 1 = s.regs.sp - 2 := by bv_omega
  unfold State.push16 State.memWrite State.setSP
  dsimp only
  rw [State.busWrite_update s { s.regs with sp := s.regs.sp - 1 } s.ime s.halted s.fault s.cycles s.totalCycles s.draws
    s.hostInputs]
  dsimp only
  rw [h2]
  rw [State.busWrite_update (s.busWrite (s.regs.sp - 1) (hiByte w)) { s.regs with sp := s.regs.sp - 2 } s.ime s.halted
    s.fault s.cycles s.totalCycles s.draws s.hostInputs]
  simp only [State.busWrite_ime, State.busWrite_halted, State.busWrite_fault, State.busWrite_cycles,
    State.busWrite_totalCycles, State.busWrite_draws, State.busWrite_hostInputs]

/-- `Pop16` reads the word at SP and moves SP up. -/
theorem State.pop16_eq (s : State) :
    s.pop16 = (s.stackTop,
      { (s.afterRead s.regs.sp).afterRead (s.regs.sp + 1) with regs := { s.regs with sp := s.regs.sp + 2 } }) := by
  unfold State.pop16 State.stackTop State.setSP
  simp

/-! From an answer of exec to a shape of completion. -/

section
variable {i : Instr} {s : State} {r : Regs} {n : Nat}

theorem registerOnly_of_exec (h : exec i s = .next { s with regs := r, cycles := s.cycles + n }) : RegisterOnly i s r n :=
  ⟨_, h, rfl, State.sameBytes_update s r s.ime s.halted s.bootActive s.fault _ _ s.events s.hostInputs⟩

theorem readsAt_of_exec {ea : Word} (h : exec i s = .next { s.afterRead ea with regs := r, cycles := s.cycles + n }) :
    ReadsAt i s ea r n := by
  refine ⟨_, h, rfl, ?_⟩
  refine State.sameBytes_trans (State.sameBytes_afterRead s ea) ?_
  exact State.sameBytes_update (s.afterRead ea) r _ _ _ _ _ _ _ _

theorem storesAt_of_exec {ea : Word} {v : Byte}
    (h : exec i s = .next { s.busWrite ea v with regs := r, cycles := s.cycles + n }) : StoresAt i s ea v r n := by
  refine ⟨_, h, rfl, ?_⟩
  refine State.sameBytesBut_of_sameBytes (State.sameBytesBut_busWrite s ea v) ?_
  exact State.sameBytes_update (s.busWrite ea v) r _ _ _ _ _ _ _ _

theorem modifiesAt_of_exec {ea : Word} {v : Byte}
    (h : exec i s = .next { (s.afterRead ea).busWrite ea v with regs := r, cycles := s.cycles + n }) :
    ModifiesAt i s ea v r n := by
  refine ⟨_, h, rfl, ?_⟩
  refine State.sameBytesBut_of_sameBytes (t := (s.afterRead ea).busWrite ea v) ?_
    (State.sameBytes_update ((s.afterRead ea).busWrite ea v) r _ _ _ _ _ _ _ _)
  intro a ha hx
  rw [State.busRead_busWrite_outside (s.afterRead ea) v]
  · exact State.sameBytes_afterRead s ea a ha
  · have := hx ea (by simp)
    unfold State.outside State.storesNothing at this ⊢
    simpa only [State.afterRead_params, State.afterRead_mbc] using this

theorem pushesWord_of_exec {w pc : Word}
    (h : exec i s = .next { (s.push16 w).setPC pc with cycles := s.cycles + n }) : PushesWord i s w pc n := by
  rw [State.push16_eq] at h
  refine ⟨_, h, rfl, ?_⟩
  refine State.sameBytesBut_of_sameBytes
    (State.sameBytesBut_busWrite_busWrite s (s.regs.sp - 1) (s.regs.sp - 2) (hiByte w) (loByte w) ?_) ?_
  · intro hr
    have h1 : s.regs.sp - 2 + 1 = s.regs.sp - 1 := by bv_omega
    exact region_rom_pred (by rw [h1]; exact hr)
  · exact State.sameBytes_update _ _ _ _ _ _ _ _ _ _

theorem popsWord_of_exec {ime : Bool}
    (h : exec i s = .next { s.pop16.2 with regs := { r with sp := s.regs.sp + 2 }, ime := ime, cycles := s.cycles + n }) :
    PopsWord i s r ime n := by
  rw [State.pop16_eq] at h
  refine ⟨_, h, rfl, ?_⟩
  refine State.sameBytes_trans (State.sameBytes_trans (State.sameBytes_afterRead s _)
    (State.sameBytes_afterRead (s.afterRead s.regs.sp) (s.regs.sp + 1))) ?_
  exact State.sameBytes_update _ _ _ _ _ _ _ _ _ _

end

end Sys2Proof.Machine
end

