-- ==== Sys2Proof/Laws/Storage.lean ====
section
/-! SUPPORT. The decoder range by range, and that storage reads back what was written. -/

namespace Sys2Proof.Machine

/-! The decoder (rule R61), range by range. -/

section
variable {a : Word}

theorem region_vram (h1 : 0x8000 ≤ a.toNat) (h2 : a.toNat ≤ 0x9FFF) : region a = .vram (a.toNat - 0x8000) := by
  simp (disch := omega) only [region, if_neg, if_pos]

theorem region_cartRam (h1 : 0xA000 ≤ a.toNat) (h2 : a.toNat ≤ 0xBFFF) : region a = .cartRam :=
  (region_cartRam_iff a).2 ⟨h1, h2⟩

theorem region_wram (h1 : 0xC000 ≤ a.toNat) (h2 : a.toNat ≤ 0xDFFF) : region a = .wram (a.toNat - 0xC000) := by
  simp (disch := omega) only [region, if_neg, if_pos]

theorem region_echo (h1 : 0xE000 ≤ a.toNat) (h2 : a.toNat ≤ 0xFDFF) : region a = .wram (a.toNat - 0xE000) := by
  simp (disch := omega) only [region, if_neg, if_pos]

theorem region_oam (h1 : 0xFE00 ≤ a.toNat) (h2 : a.toNat ≤ 0xFE9F) : region a = .oam (a.toNat - 0xFE00) := by
  simp (disch := omega) only [region, if_neg, if_pos]

theorem region_io (h1 : 0xFF00 ≤ a.toNat) (h2 : a.toNat ≤ 0xFF7F) : region a = ioRegion a.toNat := by
  simp (disch := omega) only [region, if_neg, if_pos]

theorem region_audio (h1 : 0xFF10 ≤ a.toNat) (h2 : a.toNat ≤ 0xFF3F) : region a = .audio := by
  rw [region_io (by omega) (by omega)]
  simp (disch := omega) only [ioRegion, if_neg, if_pos]

theorem region_hram (h1 : 0xFF80 ≤ a.toNat) (h2 : a.toNat ≤ 0xFFFE) : region a = .hram (a.toNat - 0xFF80) := by
  simp (disch := omega) only [region, if_neg, if_pos]

theorem region_rom_iff : region a = .rom ↔ a.toNat ≤ 0x7FFF := by
  refine ⟨fun h => ?_, region_rom⟩
  by_contra hn
  unfold region at h
  dsimp only at h
  rw [if_neg hn] at h
  revert h
  unfold ioRegion
  repeat' apply ite_region_ne
  all_goals exact Region.noConfusion

end

theorem ioRegion_range (a : Nat) {r : Region} (h : ioRegion a = r) :
    (∀ k, r ≠ .vram k) ∧ (∀ k, r ≠ .wram k) ∧ (∀ k, r ≠ .oam k) ∧ (∀ k, r ≠ .hram k) := by
  subst h
  unfold ioRegion
  refine ⟨fun k => ?_, fun k => ?_, fun k => ?_, fun k => ?_⟩ <;> repeat' apply ite_region_ne
  all_goals exact Region.noConfusion

/-! The single registers of the bus itself. -/

theorem region_bootLock_iff {a : Word} : region a = .bootLock ↔ a = 0xFF50 := by
  refine ⟨fun h => ?_, fun h => by rw [h]; rfl⟩
  by_contra hn
  have ha : ¬ a.toNat = 0xFF50 := fun h' => hn (BitVec.eq_of_toNat_eq h')
  revert h
  unfold region ioRegion
  dsimp only
  rw [if_neg ha]
  repeat' apply ite_region_ne
  all_goals exact Region.noConfusion

theorem region_intFlag_iff {a : Word} : region a = .intFlag ↔ a = 0xFF0F := by
  refine ⟨fun h => ?_, fun h => by rw [h]; rfl⟩
  by_contra hn
  have ha : ¬ a.toNat = 0xFF0F := fun h' => hn (BitVec.eq_of_toNat_eq h')
  revert h
  unfold region ioRegion
  dsimp only
  rw [if_neg ha]
  repeat' apply ite_region_ne
  all_goals exact Region.noConfusion

theorem region_intEnable_iff {a : Word} : region a = .intEnable ↔ a = 0xFFFF := by
  refine ⟨fun h => ?_, fun h => by rw [h]; rfl⟩
  by_contra hn
  have ha : a.toNat ≤ 0xFFFE := by bv_omega
  revert h
  unfold region ioRegion
  dsimp only
  rw [if_pos ha]
  repeat' apply ite_region_ne
  all_goals exact Region.noConfusion

section
variable {a : Word} {k : Nat}

theorem region_vram_lt (h : region a = .vram k) : k < 0x2000 := by
  unfold region at h
  dsimp only at h
  repeat' split at h
  all_goals first
    | (have := Region.vram.inj h; omega)
    | exact Region.noConfusion h
    | exact absurd rfl ((ioRegion_range _ h).1 k)

theorem region_wram_lt (h : region a = .wram k) : k < 0x2000 := by
  unfold region at h
  dsimp only at h
  repeat' split at h
  all_goals first
    | (have := Region.wram.inj h; omega)
    | exact Region.noConfusion h
    | exact absurd rfl ((ioRegion_range _ h).2.1 k)

/-- The addresses of OAM. -/
theorem region_oam_range (h : region a = .oam k) : 0xFE00 ≤ a.toNat ∧ a.toNat ≤ 0xFE9F := by
  unfold region at h
  dsimp only at h
  repeat' split at h
  all_goals first
    | (constructor <;> omega)
    | exact Region.noConfusion h
    | exact absurd rfl ((ioRegion_range _ h).2.2.1 k)

theorem region_oam_lt (h : region a = .oam k) : k < 0xA0 := by
  unfold region at h
  dsimp only at h
  repeat' split at h
  all_goals first
    | (have := Region.oam.inj h; omega)
    | exact Region.noConfusion h
    | exact absurd rfl ((ioRegion_range _ h).2.2.1 k)

theorem region_hram_lt (h : region a = .hram k) : k < 0x7F := by
  unfold region at h
  dsimp only at h
  repeat' split at h
  all_goals first
    | (have := Region.hram.inj h; omega)
    | exact Region.noConfusion h
    | exact absurd rfl ((ioRegion_range _ h).2.2.2 k)

end

/-! A read after a write. -/

/-- The CPU reads storage through the bus, whether or not the overlay is on. -/
theorem State.memRead_of_not_rom (s : State) {a : Word} (h : region a ≠ .rom) : s.memRead a = s.busRead a := by
  have ha : ¬ a.toNat ≤ 0x7FFF := fun h' => h (region_rom h')
  exact if_neg fun h' => by omega

theorem State.readsBack_ne {s : State} {x : Word} (h : s.readsBack x) : region x ≠ .rom ∧ region x ≠ .audio := by
  unfold State.readsBack at h
  constructor <;> intro hx <;> rw [hx] at h <;> exact h

/-- Storage that reads back returns the byte last written (rule R154). -/
theorem State.busRead_busWrite_same (s : State) {x : Word} (v : Byte) (h : s.readsBack x) :
    (s.busWrite x v).busRead x = v := by
  have hx := h
  unfold State.readsBack at hx
  unfold State.busRead State.busWrite
  cases hr : region x with
  | cartRam =>
    rw [hr] at hx
    obtain ⟨i, hi⟩ := hx
    simp [State.readCartRam, State.writeCartRam, hi]
  | vram k => simp
  | wram k => simp
  | oam k => simp
  | hram k => simp
  | intFlag => rfl
  | intEnable => rfl
  | _ => rw [hr] at hx; exact hx.elim

/-- A write elsewhere does not change whether an address reads back. -/
theorem State.readsBack_busWrite (s : State) {x y : Word} (v : Byte) (hx : region x ≠ .rom) :
    (s.busWrite x v).readsBack y ↔ s.readsBack y := by
  unfold State.readsBack
  cases region y <;> first | exact Iff.rfl | simp only [State.ramTarget_busWrite s v hx]

/-! The bank controllers (rules R354, R355). -/

/-- The enable code is a low nibble of ten (rule R354 (b)). -/
theorem enables_eq (v : Byte) : enables v = decide (v.toNat % 16 = 10) := by
  revert v
  decide

/-- A coerced selector is the number itself, 0 being taken as 1 (rule R354 (a)). -/
theorem coerceBank_eq {w : Nat} (b : BitVec w) : coerceBank b = BitVec.ofNat w (max 1 b.toNat) := by
  unfold coerceBank
  by_cases h : b = 0
  · rw [if_pos h, h]
    rfl
  · have : b.toNat ≠ 0 := fun h' => h (BitVec.eq_of_toNat_eq h')
    rw [if_neg h, Nat.max_eq_right (by omega), BitVec.ofNat_toNat, BitVec.setWidth_eq]

/-- The low bits of a written byte, as a number. -/
theorem lowBits_eq (v : Byte) (w : Nat) : v.extractLsb' 0 w = BitVec.ofNat w (v.toNat % 2 ^ w) := by
  apply BitVec.eq_of_toNat_eq
  simp

/-- A write to the ROM area is the variant's control write (rule R385). -/
theorem State.busWrite_rom (s : State) {x : Word} (v : Byte) (h : x.toNat ≤ 0x7FFF) :
    s.busWrite x v = { s with mbc := s.mbc.control x.toNat v } := by
  unfold State.busWrite
  rw [region_rom h]

/-- A read of the ROM area returns the image (rules R354 (d), R355). -/
theorem State.busRead_rom (s : State) {a : Word} (h : a.toNat ≤ 0x7FFF) :
    s.busRead a = s.params.rom.read (romOffset s.params s.mbc a.toNat) := by
  unfold State.busRead
  rw [region_rom h]

/-- Where the RAM window reaches nothing it reads all ones and discards writes (rule R354 (c)). -/
theorem State.ramWindow_nothing (s : State) {a : Word} (v : Byte) (ha : region a = .cartRam)
    (h : ramTarget s.params s.mbc a.toNat = .nothing) : s.busRead a = 0xFF ∧ s.busWrite a v = s := by
  unfold State.busRead State.busWrite State.readCartRam State.writeCartRam
  rw [ha, h]
  exact ⟨rfl, rfl⟩

end Sys2Proof.Machine
end

