-- ==== Sys2Proof/Laws/Components.lean ====
section
/-! SUPPORT. What a bus write leaves of each component, and that it keeps each component's form. -/

namespace Sys2Proof.Machine

theorem Timer.write_timaClock (t : Timer) (r : TimerReg) (v : Byte) : (t.write r v).timaClock = t.timaClock := by
  cases r <;> rfl

theorem Timer.write_divClock_lt (t : Timer) (r : TimerReg) (v : Byte) (h : t.divClock < 256) :
    (t.write r v).divClock < 256 := by
  cases r <;> first | exact h | exact Nat.zero_lt_succ 255

theorem Display.writeReg_ly (d : Display) (r : DisplayReg) (v : Byte) : (d.writeReg r v).ly = d.ly := by
  cases r <;> rfl

theorem Display.writeReg_modeClock (d : Display) (r : DisplayReg) (v : Byte) : (d.writeReg r v).modeClock = d.modeClock := by
  cases r <;> rfl

theorem Display.writeReg_dmaBudget (d : Display) (r : DisplayReg) (v : Byte) : (d.writeReg r v).dmaBudget = d.dmaBudget := by
  cases r <;> rfl

/-- The three status bits of STAT are read-only (rule R302). -/
theorem Display.writeReg_stat_low (d : Display) (r : DisplayReg) (v : Byte) :
    (d.writeReg r v).stat &&& 0x07 = d.stat &&& 0x07 := by
  cases r with
  | stat =>
    show (d.stat &&& 0x07 ||| v &&& 0x78) &&& 0x07 = d.stat &&& 0x07
    rw [BitVec.and_or_distrib_right, BitVec.and_assoc, BitVec.and_assoc]
    simp
  | _ => rfl

/-- STAT's top bit is not implemented (rule R302). -/
theorem Display.writeReg_stat_high (d : Display) (r : DisplayReg) (v : Byte) (h : d.stat &&& 0x80 = 0) :
    (d.writeReg r v).stat &&& 0x80 = 0 := by
  cases r with
  | stat =>
    show (d.stat &&& 0x07 ||| v &&& 0x78) &&& 0x80 = 0
    rw [BitVec.and_or_distrib_right, BitVec.and_assoc, BitVec.and_assoc]
    simp
  | _ => exact h

/-- The mode is the low two status bits. -/
theorem Display.mode_eq_of_stat {d e : Display} (h : d.stat &&& 0x07 = e.stat &&& 0x07) : d.mode = e.mode := by
  unfold Display.mode
  apply BitVec.eq_of_getLsbD_eq
  intro i hi
  have h' := congrArg (fun x => BitVec.getLsbD x i) h
  have h7 : ∀ j, j < 2 → (0x07 : Byte).getLsbD j = true := by decide
  simp only [BitVec.getLsbD_and, h7 i hi, Bool.and_true] at h'
  simpa [hi] using h'

theorem Display.writeReg_mode (d : Display) (r : DisplayReg) (v : Byte) : (d.writeReg r v).mode = d.mode :=
  Display.mode_eq_of_stat (Display.writeReg_stat_low d r v)

@[simp] theorem Mbc.control_variant (m : Mbc) (a : Nat) (v : Byte) : (m.control a v).variant = m.variant := by
  cases m <;> rfl

@[simp] theorem Mbc.setClock_variant (m : Mbc) (k : Nat) (v : Byte) : (m.setClock k v).variant = m.variant := by
  cases m <;> rfl

theorem Mbc.setClock_selectorsOk (m : Mbc) (k : Nat) (v : Byte) : (m.setClock k v).selectorsOk = m.selectorsOk := by
  cases m <;> rfl

theorem coerceBank_ne_zero {w : Nat} (hw : 0 < w) (b : BitVec w) : coerceBank b ≠ 0 := by
  unfold coerceBank
  split
  · intro h
    have := BitVec.one_eq_zero_iff.1 h
    omega
  · assumption

/-- No control write leaves a ROM bank selector at 0 (rule R354 (a)). -/
theorem Mbc.control_selectorsOk (m : Mbc) (a : Nat) (v : Byte) (h : m.selectorsOk = true) :
    (m.control a v).selectorsOk = true := by
  cases m with
  | romOnly => rfl
  | type1 r =>
    show ((r.control a v).romBank5 != 0) = true
    unfold Mbc1.control
    split
    · exact h
    · split
      · simpa using coerceBank_ne_zero (by decide) _
      · split <;> exact h
  | type2 r =>
    show ((r.control a v).romBank4 != 0) = true
    unfold Mbc2.control
    split
    · split
      · simpa using coerceBank_ne_zero (by decide) _
      · exact h
    · exact h
  | type3 r =>
    show ((r.control a v).romBank7 != 0) = true
    unfold Mbc3.control
    split
    · exact h
    · split
      · simpa using coerceBank_ne_zero (by decide) _
      · split <;> exact h

/-- A cell the RAM window reaches is inside cartridge RAM. -/
theorem ramTarget_cell_lt {p : Params} {m : Mbc} {a i : Nat} (h : ramTarget p m a = .cell i) : i < ramSize p := by
  have banked : ∀ bank, bankedCell (ramSize p) bank a = .cell i → i < ramSize p := by
    intro bank hb
    unfold bankedCell at hb
    split at hb
    · exact RamTarget.noConfusion hb
    · rename_i h0
      rw [← RamTarget.cell.inj hb]
      exact Nat.mod_lt _ (Nat.pos_of_ne_zero h0)
  unfold ramTarget at h
  split at h
  · exact RamTarget.noConfusion h
  · split at h
    · exact banked _ h
    · exact RamTarget.noConfusion h
  · split at h <;> exact RamTarget.noConfusion h
  · split at h
    · split at h
      · exact banked _ h
      · split at h <;> exact RamTarget.noConfusion h
    · exact RamTarget.noConfusion h

/-- A nibble cell is one of 512, of a type 2 cartridge. -/
theorem ramTarget_nibble {p : Params} {m : Mbc} {a i : Nat} (h : ramTarget p m a = .nibble i) :
    i < 0x200 ∧ m.variant = .type2 := by
  have banked : ∀ bank, bankedCell (ramSize p) bank a ≠ .nibble i := by
    intro bank
    unfold bankedCell
    split <;> exact RamTarget.noConfusion
  unfold ramTarget at h
  split at h
  · exact RamTarget.noConfusion h
  · split at h
    · exact absurd h (banked _)
    · exact RamTarget.noConfusion h
  · split at h
    · rw [← RamTarget.nibble.inj h]
      exact ⟨Nat.mod_lt _ (by decide), rfl⟩
    · exact RamTarget.noConfusion h
  · split at h
    · split at h
      · exact absurd h (banked _)
      · split at h <;> exact RamTarget.noConfusion h
    · exact RamTarget.noConfusion h

theorem ramTarget_cell_variant {p : Params} {m : Mbc} {a i : Nat} (h : ramTarget p m a = .cell i) : m.variant ≠ .type2 := by
  intro hv
  cases m with
  | romOnly => exact Variant.noConfusion hv
  | type1 r => exact Variant.noConfusion hv
  | type2 r =>
    unfold ramTarget at h
    dsimp only at h
    split at h <;> exact RamTarget.noConfusion h
  | type3 r => exact Variant.noConfusion hv

/-! What a bus write leaves of the display, the timer, the joypad and the cartridge. -/

section
variable (s : State) (x : Word) (v : Byte)

/-- A write into the RAM window changes cartridge RAM or a clock register only. -/
theorem State.writeCartRam_eq : ∃ mbc cram, s.writeCartRam x v = { s with mbc := mbc, cram := cram } := by
  unfold State.writeCartRam
  split
  · exact ⟨s.mbc, s.cram, rfl⟩
  · exact ⟨s.mbc, _, rfl⟩
  · exact ⟨s.mbc, _, rfl⟩
  · exact ⟨_, s.cram, rfl⟩

/-- Everything a bus write can do to the display: a register write, or a store to VRAM or OAM. -/
theorem State.busWrite_display :
    (∃ r, region x = .display r ∧ (s.busWrite x v).display = s.display.writeReg r v) ∨
      (∃ k, region x = .vram k ∧ (s.busWrite x v).display = { s.display with vram := s.display.vram.write k v }) ∨
      (∃ k, region x = .oam k ∧ (s.busWrite x v).display = { s.display with oam := s.display.oam.write k v }) ∨
      (s.busWrite x v).display = s.display := by
  unfold State.busWrite
  cases hx : region x with
  | display r => exact .inl ⟨r, rfl, rfl⟩
  | vram k => exact .inr (.inl ⟨k, rfl, rfl⟩)
  | oam k => exact .inr (.inr (.inl ⟨k, rfl, rfl⟩))
  | cartRam =>
    obtain ⟨m, c, h⟩ := s.writeCartRam_eq x v
    exact .inr (.inr (.inr (by dsimp only; rw [h])))
  | bootLock => exact .inr (.inr (.inr (by dsimp only; split <;> rfl)))
  | _ => exact .inr (.inr (.inr rfl))

/-- Everything a bus write can do to the timer. -/
theorem State.busWrite_timer :
    (∃ r, region x = .timer r ∧ (s.busWrite x v).timer = s.timer.write r v) ∨ (s.busWrite x v).timer = s.timer := by
  unfold State.busWrite
  cases hx : region x with
  | timer r => exact .inl ⟨r, rfl, rfl⟩
  | cartRam =>
    obtain ⟨m, c, h⟩ := s.writeCartRam_eq x v
    exact .inr (by dsimp only; rw [h])
  | bootLock => exact .inr (by dsimp only; split <;> rfl)
  | _ => exact .inr rfl

/-- Everything a bus write can do to the joypad. -/
theorem State.busWrite_joypad :
    (region x = .joypad ∧ (s.busWrite x v).joypad = s.joypad.write v) ∨ (s.busWrite x v).joypad = s.joypad := by
  unfold State.busWrite
  cases hx : region x with
  | joypad => exact .inl ⟨rfl, rfl⟩
  | cartRam =>
    obtain ⟨m, c, h⟩ := s.writeCartRam_eq x v
    exact .inr (by dsimp only; rw [h])
  | bootLock => exact .inr (by dsimp only; split <;> rfl)
  | _ => exact .inr rfl

/-- Everything a bus write can do to WRAM. -/
theorem State.busWrite_wram :
    (∃ k, region x = .wram k ∧ (s.busWrite x v).wram = s.wram.write k v) ∨ (s.busWrite x v).wram = s.wram := by
  unfold State.busWrite
  cases hx : region x with
  | wram k => exact .inl ⟨k, rfl, rfl⟩
  | cartRam =>
    obtain ⟨m, c, h⟩ := s.writeCartRam_eq x v
    exact .inr (by dsimp only; rw [h])
  | bootLock => exact .inr (by dsimp only; split <;> rfl)
  | _ => exact .inr rfl

/-- Everything a bus write can do to HRAM. -/
theorem State.busWrite_hram :
    (∃ k, region x = .hram k ∧ (s.busWrite x v).hram = s.hram.write k v) ∨ (s.busWrite x v).hram = s.hram := by
  unfold State.busWrite
  cases hx : region x with
  | hram k => exact .inl ⟨k, rfl, rfl⟩
  | cartRam =>
    obtain ⟨m, c, h⟩ := s.writeCartRam_eq x v
    exact .inr (by dsimp only; rw [h])
  | bootLock => exact .inr (by dsimp only; split <;> rfl)
  | _ => exact .inr rfl

/-- Everything a bus write can do to the bank controller: a control write, or a clock register. -/
theorem State.busWrite_mbc :
    (region x = .rom ∧ (s.busWrite x v).mbc = s.mbc.control x.toNat v) ∨
      (∃ k, (s.busWrite x v).mbc = s.mbc.setClock k v) ∨ (s.busWrite x v).mbc = s.mbc := by
  unfold State.busWrite
  cases hx : region x with
  | rom => exact .inl ⟨rfl, rfl⟩
  | cartRam =>
    dsimp only
    unfold State.writeCartRam
    split
    · exact .inr (.inr rfl)
    · exact .inr (.inr rfl)
    · exact .inr (.inr rfl)
    · exact .inr (.inl ⟨_, rfl⟩)
  | bootLock => exact .inr (.inr (by dsimp only; split <;> rfl))
  | _ => exact .inr (.inr rfl)

/-- Everything a bus write can do to cartridge RAM. -/
theorem State.busWrite_cram :
    (∃ i, ramTarget s.params s.mbc x.toNat = .cell i ∧ (s.busWrite x v).cram = s.cram.write i v) ∨
      (∃ i, ramTarget s.params s.mbc x.toNat = .nibble i ∧ (s.busWrite x v).cram = s.cram.write i (v &&& 0x0F)) ∨
      (s.busWrite x v).cram = s.cram := by
  unfold State.busWrite
  cases hx : region x with
  | cartRam =>
    dsimp only
    unfold State.writeCartRam
    split
    · exact .inr (.inr rfl)
    · rename_i i h
      exact .inl ⟨i, h, rfl⟩
    · rename_i i h
      exact .inr (.inl ⟨i, h, rfl⟩)
    · exact .inr (.inr rfl)
  | bootLock => exact .inr (.inr (by dsimp only; split <;> rfl))
  | _ => exact .inr (.inr rfl)

/-- Only 0xFF50 removes the overlay. -/
theorem State.busWrite_bootActive_of_ne (h : region x ≠ .bootLock) : (s.busWrite x v).bootActive = s.bootActive := by
  unfold State.busWrite
  cases hx : region x with
  | bootLock => exact absurd hx h
  | cartRam =>
    obtain ⟨m, c, e⟩ := s.writeCartRam_eq x v
    dsimp only
    rw [e]
  | _ => rfl

end

end Sys2Proof.Machine
end

