-- ==== Sys2Proof/Laws/Exec.lean ====
section
/-! SUPPORT. The instructions by family: what exec runs for each field pattern of rules R112 and R113, and a case split over all
instructions by family. -/

namespace Sys2Proof.Laws

open Sys2Proof Sys2Proof.Machine

theorem exec_ldRegReg (dst : R8) (src : R8) (s : State) :
    exec (Instr.ldRegReg dst src) s = .next (ldRegReg dst src s) := by
  cases dst <;> cases src <;> rfl

theorem exec_ldImm (o : Opnd) (n : Byte) (s : State) :
    exec (Instr.ldImm o n) s = .next (ldOpndImm o n s) := by
  cases o <;> first | rfl | (rename_i r; cases r <;> rfl)

theorem exec_ldRegMem (r : R8) (s : State) :
    exec (Instr.ldRegMem r) s = .next (loadByte r s.regs.hl 8 s) := by
  cases r <;> rfl

theorem exec_ldMemReg (r : R8) (s : State) :
    exec (Instr.ldMemReg r) s = .next (storeByte s.regs.hl (s.regs.get r) 8 s) := by
  cases r <;> rfl

theorem exec_ldPair (p : R16) (w : Word) (s : State) :
    exec (Instr.ldPair p w) s = .next (ldPairImm p w s) := by
  cases p <;> rfl

theorem exec_push (p : StackPair) (s : State) :
    exec (Instr.push p) s = .next (pushPair p s) := by
  cases p <;> rfl

theorem exec_pop (p : StackPair) (s : State) :
    exec (Instr.pop p) s = .next (popPair p s) := by
  cases p <;> rfl

theorem exec_alu (op : AluOp) (o : Opnd) (s : State) :
    exec (Instr.alu op o) s = .next (accumulate op (.opnd o) s) := by
  cases op <;> cases o <;> first | rfl | (rename_i r; cases r <;> rfl)

theorem exec_aluImm (op : AluOp) (n : Byte) (s : State) :
    exec (Instr.aluImm op n) s = .next (accumulate op (.imm n) s) := by
  cases op <;> rfl

theorem exec_inc (o : Opnd) (s : State) :
    exec (Instr.inc o) s = .next (incOpnd o s) := by
  cases o <;> first | rfl | (rename_i r; cases r <;> rfl)

theorem exec_dec (o : Opnd) (s : State) :
    exec (Instr.dec o) s = .next (decOpnd o s) := by
  cases o <;> first | rfl | (rename_i r; cases r <;> rfl)

theorem exec_addHL (p : R16) (s : State) :
    exec (Instr.addHL p) s = .next (addHLPair p s) := by
  cases p <;> rfl

theorem exec_incPair (p : R16) (s : State) :
    exec (Instr.incPair p) s = .next (incPair p s) := by
  cases p <;> rfl

theorem exec_decPair (p : R16) (s : State) :
    exec (Instr.decPair p) s = .next (decPair p s) := by
  cases p <;> rfl

theorem exec_rot (op : RotOp) (o : Opnd) (s : State) :
    exec (Instr.rot op o) s = .next (rotateOpnd op o s) := by
  cases op <;> cases o <;> first | rfl | (rename_i r; cases r <;> rfl)

theorem exec_bit (k : Fin 8) (o : Opnd) (s : State) :
    exec (Instr.bit k o) s = .next (testBit k.val o s) := by
  fin_cases k <;> cases o <;> first | rfl | (rename_i r; cases r <;> rfl)

theorem exec_res (k : Fin 8) (o : Opnd) (s : State) :
    exec (Instr.res k o) s = .next (resetBit k.val o s) := by
  fin_cases k <;> cases o <;> first | rfl | (rename_i r; cases r <;> rfl)

theorem exec_set (k : Fin 8) (o : Opnd) (s : State) :
    exec (Instr.set k o) s = .next (setBit k.val o s) := by
  fin_cases k <;> cases o <;> first | rfl | (rename_i r; cases r <;> rfl)

theorem exec_jrCond (cc : Cond) (e : Byte) (s : State) :
    exec (Instr.jrCond cc e) s = .next (jumpIf cc (s.regs.pc + sext16 e) 12 8 s) := by
  cases cc <;> rfl

theorem exec_jpCond (cc : Cond) (w : Word) (s : State) :
    exec (Instr.jpCond cc w) s = .next (jumpIf cc w 16 12 s) := by
  cases cc <;> rfl

theorem exec_callCond (cc : Cond) (w : Word) (s : State) :
    exec (Instr.callCond cc w) s = .next (callIf cc w s) := by
  cases cc <;> rfl

theorem exec_retCond (cc : Cond) (s : State) :
    exec (Instr.retCond cc) s = .next (returnIf cc s) := by
  cases cc <;> rfl

theorem exec_rst (y : Fin 8) (s : State) :
    exec (Instr.rst y) s = .next (callTo (BitVec.ofNat 16 (y.val * 8)) 16 s) :=
  match y with
  | 0 => rfl
  | 1 => rfl
  | 2 => rfl
  | 3 => rfl
  | 4 => rfl
  | 5 => rfl
  | 6 => rfl
  | 7 => rfl

theorem exec_illegal (u : Unassigned) (s : State) :
    exec (Instr.illegal u) s = .next (s.raiseInvalidOpcode u.opcode) := by
  cases u <;> rfl

/-- A property of every family and of every single instruction is one of every instruction. -/
theorem instr_family_cases {P : Instr → Prop}
    (h_ldRegReg : ∀ (dst : R8) (src : R8), P (Instr.ldRegReg dst src))
    (h_ldImm : ∀ (o : Opnd) (n : Byte), P (Instr.ldImm o n))
    (h_ldRegMem : ∀ (r : R8), P (Instr.ldRegMem r))
    (h_ldMemReg : ∀ (r : R8), P (Instr.ldMemReg r))
    (h_ldPair : ∀ (p : R16) (w : Word), P (Instr.ldPair p w))
    (h_push : ∀ (p : StackPair), P (Instr.push p))
    (h_pop : ∀ (p : StackPair), P (Instr.pop p))
    (h_alu : ∀ (op : AluOp) (o : Opnd), P (Instr.alu op o))
    (h_aluImm : ∀ (op : AluOp) (n : Byte), P (Instr.aluImm op n))
    (h_inc : ∀ (o : Opnd), P (Instr.inc o))
    (h_dec : ∀ (o : Opnd), P (Instr.dec o))
    (h_addHL : ∀ (p : R16), P (Instr.addHL p))
    (h_incPair : ∀ (p : R16), P (Instr.incPair p))
    (h_decPair : ∀ (p : R16), P (Instr.decPair p))
    (h_rot : ∀ (op : RotOp) (o : Opnd), P (Instr.rot op o))
    (h_bit : ∀ (k : Fin 8) (o : Opnd), P (Instr.bit k o))
    (h_res : ∀ (k : Fin 8) (o : Opnd), P (Instr.res k o))
    (h_set : ∀ (k : Fin 8) (o : Opnd), P (Instr.set k o))
    (h_jrCond : ∀ (cc : Cond) (e : Byte), P (Instr.jrCond cc e))
    (h_jpCond : ∀ (cc : Cond) (w : Word), P (Instr.jpCond cc w))
    (h_callCond : ∀ (cc : Cond) (w : Word), P (Instr.callCond cc w))
    (h_retCond : ∀ (cc : Cond), P (Instr.retCond cc))
    (h_rst : ∀ (y : Fin 8), P (Instr.rst y))
    (h_illegal : ∀ (u : Unassigned), P (Instr.illegal u))
    (h_nop : P .nop)
    (h_ld_atBC_a : P .ld_atBC_a)
    (h_rlca : P .rlca)
    (h_ld_atN16_sp : ∀ w : Word, P (.ld_atN16_sp w))
    (h_ld_a_atBC : P .ld_a_atBC)
    (h_rrca : P .rrca)
    (h_stop : P .stop)
    (h_ld_atDE_a : P .ld_atDE_a)
    (h_rla : P .rla)
    (h_jr_e8 : ∀ e : Byte, P (.jr_e8 e))
    (h_ld_a_atDE : P .ld_a_atDE)
    (h_rra : P .rra)
    (h_ld_atHLinc_a : P .ld_atHLinc_a)
    (h_daa : P .daa)
    (h_ld_a_atHLinc : P .ld_a_atHLinc)
    (h_cpl : P .cpl)
    (h_ld_atHLdec_a : P .ld_atHLdec_a)
    (h_scf : P .scf)
    (h_ld_a_atHLdec : P .ld_a_atHLdec)
    (h_ccf : P .ccf)
    (h_halt : P .halt)
    (h_jp_n16 : ∀ w : Word, P (.jp_n16 w))
    (h_ret : P .ret)
    (h_call_n16 : ∀ w : Word, P (.call_n16 w))
    (h_reti : P .reti)
    (h_ldh_atN8_a : ∀ n : Byte, P (.ldh_atN8_a n))
    (h_ldh_atC_a : P .ldh_atC_a)
    (h_add_sp_e8 : ∀ e : Byte, P (.add_sp_e8 e))
    (h_jp_hl : P .jp_hl)
    (h_ld_atN16_a : ∀ w : Word, P (.ld_atN16_a w))
    (h_ldh_a_atN8 : ∀ n : Byte, P (.ldh_a_atN8 n))
    (h_ldh_a_atC : P .ldh_a_atC)
    (h_di : P .di)
    (h_ld_hl_spE8 : ∀ e : Byte, P (.ld_hl_spE8 e))
    (h_ld_sp_hl : P .ld_sp_hl)
    (h_ld_a_atN16 : ∀ w : Word, P (.ld_a_atN16 w))
    (h_ei : P .ei)
    : ∀ i, P i := by
  intro i
  cases i with
  | nop => exact h_nop
  | ld_bc_n16 w => exact h_ldPair .bc w
  | ld_atBC_a => exact h_ld_atBC_a
  | inc_bc => exact h_incPair .bc
  | inc_b => exact h_inc (.reg .b)
  | dec_b => exact h_dec (.reg .b)
  | ld_b_n8 n => exact h_ldImm (.reg .b) n
  | rlca => exact h_rlca
  | ld_atN16_sp w => exact h_ld_atN16_sp w
  | add_hl_bc => exact h_addHL .bc
  | ld_a_atBC => exact h_ld_a_atBC
  | dec_bc => exact h_decPair .bc
  | inc_c => exact h_inc (.reg .c)
  | dec_c => exact h_dec (.reg .c)
  | ld_c_n8 n => exact h_ldImm (.reg .c) n
  | rrca => exact h_rrca
  | stop => exact h_stop
  | ld_de_n16 w => exact h_ldPair .de w
  | ld_atDE_a => exact h_ld_atDE_a
  | inc_de => exact h_incPair .de
  | inc_d => exact h_inc (.reg .d)
  | dec_d => exact h_dec (.reg .d)
  | ld_d_n8 n => exact h_ldImm (.reg .d) n
  | rla => exact h_rla
  | jr_e8 e => exact h_jr_e8 e
  | add_hl_de => exact h_addHL .de
  | ld_a_atDE => exact h_ld_a_atDE
  | dec_de => exact h_decPair .de
  | inc_e => exact h_inc (.reg .e)
  | dec_e => exact h_dec (.reg .e)
  | ld_e_n8 n => exact h_ldImm (.reg .e) n
  | rra => exact h_rra
  | jr_nz_e8 e => exact h_jrCond .nz e
  | ld_hl_n16 w => exact h_ldPair .hl w
  | ld_atHLinc_a => exact h_ld_atHLinc_a
  | inc_hl => exact h_incPair .hl
  | inc_h => exact h_inc (.reg .h)
  | dec_h => exact h_dec (.reg .h)
  | ld_h_n8 n => exact h_ldImm (.reg .h) n
  | daa => exact h_daa
  | jr_z_e8 e => exact h_jrCond .z e
  | add_hl_hl => exact h_addHL .hl
  | ld_a_atHLinc => exact h_ld_a_atHLinc
  | dec_hl => exact h_decPair .hl
  | inc_l => exact h_inc (.reg .l)
  | dec_l => exact h_dec (.reg .l)
  | ld_l_n8 n => exact h_ldImm (.reg .l) n
  | cpl => exact h_cpl
  | jr_nc_e8 e => exact h_jrCond .nc e
  | ld_sp_n16 w => exact h_ldPair .sp w
  | ld_atHLdec_a => exact h_ld_atHLdec_a
  | inc_sp => exact h_incPair .sp
  | inc_atHL => exact h_inc .atHL
  | dec_atHL => exact h_dec .atHL
  | ld_atHL_n8 n => exact h_ldImm .atHL n
  | scf => exact h_scf
  | jr_c_e8 e => exact h_jrCond .c e
  | add_hl_sp => exact h_addHL .sp
  | ld_a_atHLdec => exact h_ld_a_atHLdec
  | dec_sp => exact h_decPair .sp
  | inc_a => exact h_inc (.reg .a)
  | dec_a => exact h_dec (.reg .a)
  | ld_a_n8 n => exact h_ldImm (.reg .a) n
  | ccf => exact h_ccf
  | ld_b_b => exact h_ldRegReg .b .b
  | ld_b_c => exact h_ldRegReg .b .c
  | ld_b_d => exact h_ldRegReg .b .d
  | ld_b_e => exact h_ldRegReg .b .e
  | ld_b_h => exact h_ldRegReg .b .h
  | ld_b_l => exact h_ldRegReg .b .l
  | ld_b_atHL => exact h_ldRegMem .b
  | ld_b_a => exact h_ldRegReg .b .a
  | ld_c_b => exact h_ldRegReg .c .b
  | ld_c_c => exact h_ldRegReg .c .c
  | ld_c_d => exact h_ldRegReg .c .d
  | ld_c_e => exact h_ldRegReg .c .e
  | ld_c_h => exact h_ldRegReg .c .h
  | ld_c_l => exact h_ldRegReg .c .l
  | ld_c_atHL => exact h_ldRegMem .c
  | ld_c_a => exact h_ldRegReg .c .a
  | ld_d_b => exact h_ldRegReg .d .b
  | ld_d_c => exact h_ldRegReg .d .c
  | ld_d_d => exact h_ldRegReg .d .d
  | ld_d_e => exact h_ldRegReg .d .e
  | ld_d_h => exact h_ldRegReg .d .h
  | ld_d_l => exact h_ldRegReg .d .l
  | ld_d_atHL => exact h_ldRegMem .d
  | ld_d_a => exact h_ldRegReg .d .a
  | ld_e_b => exact h_ldRegReg .e .b
  | ld_e_c => exact h_ldRegReg .e .c
  | ld_e_d => exact h_ldRegReg .e .d
  | ld_e_e => exact h_ldRegReg .e .e
  | ld_e_h => exact h_ldRegReg .e .h
  | ld_e_l => exact h_ldRegReg .e .l
  | ld_e_atHL => exact h_ldRegMem .e
  | ld_e_a => exact h_ldRegReg .e .a
  | ld_h_b => exact h_ldRegReg .h .b
  | ld_h_c => exact h_ldRegReg .h .c
  | ld_h_d => exact h_ldRegReg .h .d
  | ld_h_e => exact h_ldRegReg .h .e
  | ld_h_h => exact h_ldRegReg .h .h
  | ld_h_l => exact h_ldRegReg .h .l
  | ld_h_atHL => exact h_ldRegMem .h
  | ld_h_a => exact h_ldRegReg .h .a
  | ld_l_b => exact h_ldRegReg .l .b
  | ld_l_c => exact h_ldRegReg .l .c
  | ld_l_d => exact h_ldRegReg .l .d
  | ld_l_e => exact h_ldRegReg .l .e
  | ld_l_h => exact h_ldRegReg .l .h
  | ld_l_l => exact h_ldRegReg .l .l
  | ld_l_atHL => exact h_ldRegMem .l
  | ld_l_a => exact h_ldRegReg .l .a
  | ld_atHL_b => exact h_ldMemReg .b
  | ld_atHL_c => exact h_ldMemReg .c
  | ld_atHL_d => exact h_ldMemReg .d
  | ld_atHL_e => exact h_ldMemReg .e
  | ld_atHL_h => exact h_ldMemReg .h
  | ld_atHL_l => exact h_ldMemReg .l
  | halt => exact h_halt
  | ld_atHL_a => exact h_ldMemReg .a
  | ld_a_b => exact h_ldRegReg .a .b
  | ld_a_c => exact h_ldRegReg .a .c
  | ld_a_d => exact h_ldRegReg .a .d
  | ld_a_e => exact h_ldRegReg .a .e
  | ld_a_h => exact h_ldRegReg .a .h
  | ld_a_l => exact h_ldRegReg .a .l
  | ld_a_atHL => exact h_ldRegMem .a
  | ld_a_a => exact h_ldRegReg .a .a
  | add_a_b => exact h_alu .add (.reg .b)
  | add_a_c => exact h_alu .add (.reg .c)
  | add_a_d => exact h_alu .add (.reg .d)
  | add_a_e => exact h_alu .add (.reg .e)
  | add_a_h => exact h_alu .add (.reg .h)
  | add_a_l => exact h_alu .add (.reg .l)
  | add_a_atHL => exact h_alu .add .atHL
  | add_a_a => exact h_alu .add (.reg .a)
  | adc_a_b => exact h_alu .adc (.reg .b)
  | adc_a_c => exact h_alu .adc (.reg .c)
  | adc_a_d => exact h_alu .adc (.reg .d)
  | adc_a_e => exact h_alu .adc (.reg .e)
  | adc_a_h => exact h_alu .adc (.reg .h)
  | adc_a_l => exact h_alu .adc (.reg .l)
  | adc_a_atHL => exact h_alu .adc .atHL
  | adc_a_a => exact h_alu .adc (.reg .a)
  | sub_b => exact h_alu .sub (.reg .b)
  | sub_c => exact h_alu .sub (.reg .c)
  | sub_d => exact h_alu .sub (.reg .d)
  | sub_e => exact h_alu .sub (.reg .e)
  | sub_h => exact h_alu .sub (.reg .h)
  | sub_l => exact h_alu .sub (.reg .l)
  | sub_atHL => exact h_alu .sub .atHL
  | sub_a => exact h_alu .sub (.reg .a)
  | sbc_a_b => exact h_alu .sbc (.reg .b)
  | sbc_a_c => exact h_alu .sbc (.reg .c)
  | sbc_a_d => exact h_alu .sbc (.reg .d)
  | sbc_a_e => exact h_alu .sbc (.reg .e)
  | sbc_a_h => exact h_alu .sbc (.reg .h)
  | sbc_a_l => exact h_alu .sbc (.reg .l)
  | sbc_a_atHL => exact h_alu .sbc .atHL
  | sbc_a_a => exact h_alu .sbc (.reg .a)
  | and_b => exact h_alu .and (.reg .b)
  | and_c => exact h_alu .and (.reg .c)
  | and_d => exact h_alu .and (.reg .d)
  | and_e => exact h_alu .and (.reg .e)
  | and_h => exact h_alu .and (.reg .h)
  | and_l => exact h_alu .and (.reg .l)
  | and_atHL => exact h_alu .and .atHL
  | and_a => exact h_alu .and (.reg .a)
  | xor_b => exact h_alu .xor (.reg .b)
  | xor_c => exact h_alu .xor (.reg .c)
  | xor_d => exact h_alu .xor (.reg .d)
  | xor_e => exact h_alu .xor (.reg .e)
  | xor_h => exact h_alu .xor (.reg .h)
  | xor_l => exact h_alu .xor (.reg .l)
  | xor_atHL => exact h_alu .xor .atHL
  | xor_a => exact h_alu .xor (.reg .a)
  | or_b => exact h_alu .or (.reg .b)
  | or_c => exact h_alu .or (.reg .c)
  | or_d => exact h_alu .or (.reg .d)
  | or_e => exact h_alu .or (.reg .e)
  | or_h => exact h_alu .or (.reg .h)
  | or_l => exact h_alu .or (.reg .l)
  | or_atHL => exact h_alu .or .atHL
  | or_a => exact h_alu .or (.reg .a)
  | cp_b => exact h_alu .cp (.reg .b)
  | cp_c => exact h_alu .cp (.reg .c)
  | cp_d => exact h_alu .cp (.reg .d)
  | cp_e => exact h_alu .cp (.reg .e)
  | cp_h => exact h_alu .cp (.reg .h)
  | cp_l => exact h_alu .cp (.reg .l)
  | cp_atHL => exact h_alu .cp .atHL
  | cp_a => exact h_alu .cp (.reg .a)
  | ret_nz => exact h_retCond .nz
  | pop_bc => exact h_pop .bc
  | jp_nz_n16 w => exact h_jpCond .nz w
  | jp_n16 w => exact h_jp_n16 w
  | call_nz_n16 w => exact h_callCond .nz w
  | push_bc => exact h_push .bc
  | add_a_n8 n => exact h_aluImm .add n
  | rst_00 => exact h_rst 0
  | ret_z => exact h_retCond .z
  | ret => exact h_ret
  | jp_z_n16 w => exact h_jpCond .z w
  | call_z_n16 w => exact h_callCond .z w
  | call_n16 w => exact h_call_n16 w
  | adc_a_n8 n => exact h_aluImm .adc n
  | rst_08 => exact h_rst 1
  | ret_nc => exact h_retCond .nc
  | pop_de => exact h_pop .de
  | jp_nc_n16 w => exact h_jpCond .nc w
  | illegal_d3 => exact h_illegal .xd3
  | call_nc_n16 w => exact h_callCond .nc w
  | push_de => exact h_push .de
  | sub_n8 n => exact h_aluImm .sub n
  | rst_10 => exact h_rst 2
  | ret_c => exact h_retCond .c
  | reti => exact h_reti
  | jp_c_n16 w => exact h_jpCond .c w
  | illegal_db => exact h_illegal .xdb
  | call_c_n16 w => exact h_callCond .c w
  | illegal_dd => exact h_illegal .xdd
  | sbc_a_n8 n => exact h_aluImm .sbc n
  | rst_18 => exact h_rst 3
  | ldh_atN8_a n => exact h_ldh_atN8_a n
  | pop_hl => exact h_pop .hl
  | ldh_atC_a => exact h_ldh_atC_a
  | illegal_e3 => exact h_illegal .xe3
  | illegal_e4 => exact h_illegal .xe4
  | push_hl => exact h_push .hl
  | and_n8 n => exact h_aluImm .and n
  | rst_20 => exact h_rst 4
  | add_sp_e8 e => exact h_add_sp_e8 e
  | jp_hl => exact h_jp_hl
  | ld_atN16_a w => exact h_ld_atN16_a w
  | illegal_eb => exact h_illegal .xeb
  | illegal_ec => exact h_illegal .xec
  | illegal_ed => exact h_illegal .xed
  | xor_n8 n => exact h_aluImm .xor n
  | rst_28 => exact h_rst 5
  | ldh_a_atN8 n => exact h_ldh_a_atN8 n
  | pop_af => exact h_pop .af
  | ldh_a_atC => exact h_ldh_a_atC
  | di => exact h_di
  | illegal_f4 => exact h_illegal .xf4
  | push_af => exact h_push .af
  | or_n8 n => exact h_aluImm .or n
  | rst_30 => exact h_rst 6
  | ld_hl_spE8 e => exact h_ld_hl_spE8 e
  | ld_sp_hl => exact h_ld_sp_hl
  | ld_a_atN16 w => exact h_ld_a_atN16 w
  | ei => exact h_ei
  | illegal_fc => exact h_illegal .xfc
  | illegal_fd => exact h_illegal .xfd
  | cp_n8 n => exact h_aluImm .cp n
  | rst_38 => exact h_rst 7
  | rlc_b => exact h_rot .rlc (.reg .b)
  | rlc_c => exact h_rot .rlc (.reg .c)
  | rlc_d => exact h_rot .rlc (.reg .d)
  | rlc_e => exact h_rot .rlc (.reg .e)
  | rlc_h => exact h_rot .rlc (.reg .h)
  | rlc_l => exact h_rot .rlc (.reg .l)
  | rlc_atHL => exact h_rot .rlc .atHL
  | rlc_a => exact h_rot .rlc (.reg .a)
  | rrc_b => exact h_rot .rrc (.reg .b)
  | rrc_c => exact h_rot .rrc (.reg .c)
  | rrc_d => exact h_rot .rrc (.reg .d)
  | rrc_e => exact h_rot .rrc (.reg .e)
  | rrc_h => exact h_rot .rrc (.reg .h)
  | rrc_l => exact h_rot .rrc (.reg .l)
  | rrc_atHL => exact h_rot .rrc .atHL
  | rrc_a => exact h_rot .rrc (.reg .a)
  | rl_b => exact h_rot .rl (.reg .b)
  | rl_c => exact h_rot .rl (.reg .c)
  | rl_d => exact h_rot .rl (.reg .d)
  | rl_e => exact h_rot .rl (.reg .e)
  | rl_h => exact h_rot .rl (.reg .h)
  | rl_l => exact h_rot .rl (.reg .l)
  | rl_atHL => exact h_rot .rl .atHL
  | rl_a => exact h_rot .rl (.reg .a)
  | rr_b => exact h_rot .rr (.reg .b)
  | rr_c => exact h_rot .rr (.reg .c)
  | rr_d => exact h_rot .rr (.reg .d)
  | rr_e => exact h_rot .rr (.reg .e)
  | rr_h => exact h_rot .rr (.reg .h)
  | rr_l => exact h_rot .rr (.reg .l)
  | rr_atHL => exact h_rot .rr .atHL
  | rr_a => exact h_rot .rr (.reg .a)
  | sla_b => exact h_rot .sla (.reg .b)
  | sla_c => exact h_rot .sla (.reg .c)
  | sla_d => exact h_rot .sla (.reg .d)
  | sla_e => exact h_rot .sla (.reg .e)
  | sla_h => exact h_rot .sla (.reg .h)
  | sla_l => exact h_rot .sla (.reg .l)
  | sla_atHL => exact h_rot .sla .atHL
  | sla_a => exact h_rot .sla (.reg .a)
  | sra_b => exact h_rot .sra (.reg .b)
  | sra_c => exact h_rot .sra (.reg .c)
  | sra_d => exact h_rot .sra (.reg .d)
  | sra_e => exact h_rot .sra (.reg .e)
  | sra_h => exact h_rot .sra (.reg .h)
  | sra_l => exact h_rot .sra (.reg .l)
  | sra_atHL => exact h_rot .sra .atHL
  | sra_a => exact h_rot .sra (.reg .a)
  | swap_b => exact h_rot .swap (.reg .b)
  | swap_c => exact h_rot .swap (.reg .c)
  | swap_d => exact h_rot .swap (.reg .d)
  | swap_e => exact h_rot .swap (.reg .e)
  | swap_h => exact h_rot .swap (.reg .h)
  | swap_l => exact h_rot .swap (.reg .l)
  | swap_atHL => exact h_rot .swap .atHL
  | swap_a => exact h_rot .swap (.reg .a)
  | srl_b => exact h_rot .srl (.reg .b)
  | srl_c => exact h_rot .srl (.reg .c)
  | srl_d => exact h_rot .srl (.reg .d)
  | srl_e => exact h_rot .srl (.reg .e)
  | srl_h => exact h_rot .srl (.reg .h)
  | srl_l => exact h_rot .srl (.reg .l)
  | srl_atHL => exact h_rot .srl .atHL
  | srl_a => exact h_rot .srl (.reg .a)
  | bit_0_b => exact h_bit 0 (.reg .b)
  | bit_0_c => exact h_bit 0 (.reg .c)
  | bit_0_d => exact h_bit 0 (.reg .d)
  | bit_0_e => exact h_bit 0 (.reg .e)
  | bit_0_h => exact h_bit 0 (.reg .h)
  | bit_0_l => exact h_bit 0 (.reg .l)
  | bit_0_atHL => exact h_bit 0 .atHL
  | bit_0_a => exact h_bit 0 (.reg .a)
  | bit_1_b => exact h_bit 1 (.reg .b)
  | bit_1_c => exact h_bit 1 (.reg .c)
  | bit_1_d => exact h_bit 1 (.reg .d)
  | bit_1_e => exact h_bit 1 (.reg .e)
  | bit_1_h => exact h_bit 1 (.reg .h)
  | bit_1_l => exact h_bit 1 (.reg .l)
  | bit_1_atHL => exact h_bit 1 .atHL
  | bit_1_a => exact h_bit 1 (.reg .a)
  | bit_2_b => exact h_bit 2 (.reg .b)
  | bit_2_c => exact h_bit 2 (.reg .c)
  | bit_2_d => exact h_bit 2 (.reg .d)
  | bit_2_e => exact h_bit 2 (.reg .e)
  | bit_2_h => exact h_bit 2 (.reg .h)
  | bit_2_l => exact h_bit 2 (.reg .l)
  | bit_2_atHL => exact h_bit 2 .atHL
  | bit_2_a => exact h_bit 2 (.reg .a)
  | bit_3_b => exact h_bit 3 (.reg .b)
  | bit_3_c => exact h_bit 3 (.reg .c)
  | bit_3_d => exact h_bit 3 (.reg .d)
  | bit_3_e => exact h_bit 3 (.reg .e)
  | bit_3_h => exact h_bit 3 (.reg .h)
  | bit_3_l => exact h_bit 3 (.reg .l)
  | bit_3_atHL => exact h_bit 3 .atHL
  | bit_3_a => exact h_bit 3 (.reg .a)
  | bit_4_b => exact h_bit 4 (.reg .b)
  | bit_4_c => exact h_bit 4 (.reg .c)
  | bit_4_d => exact h_bit 4 (.reg .d)
  | bit_4_e => exact h_bit 4 (.reg .e)
  | bit_4_h => exact h_bit 4 (.reg .h)
  | bit_4_l => exact h_bit 4 (.reg .l)
  | bit_4_atHL => exact h_bit 4 .atHL
  | bit_4_a => exact h_bit 4 (.reg .a)
  | bit_5_b => exact h_bit 5 (.reg .b)
  | bit_5_c => exact h_bit 5 (.reg .c)
  | bit_5_d => exact h_bit 5 (.reg .d)
  | bit_5_e => exact h_bit 5 (.reg .e)
  | bit_5_h => exact h_bit 5 (.reg .h)
  | bit_5_l => exact h_bit 5 (.reg .l)
  | bit_5_atHL => exact h_bit 5 .atHL
  | bit_5_a => exact h_bit 5 (.reg .a)
  | bit_6_b => exact h_bit 6 (.reg .b)
  | bit_6_c => exact h_bit 6 (.reg .c)
  | bit_6_d => exact h_bit 6 (.reg .d)
  | bit_6_e => exact h_bit 6 (.reg .e)
  | bit_6_h => exact h_bit 6 (.reg .h)
  | bit_6_l => exact h_bit 6 (.reg .l)
  | bit_6_atHL => exact h_bit 6 .atHL
  | bit_6_a => exact h_bit 6 (.reg .a)
  | bit_7_b => exact h_bit 7 (.reg .b)
  | bit_7_c => exact h_bit 7 (.reg .c)
  | bit_7_d => exact h_bit 7 (.reg .d)
  | bit_7_e => exact h_bit 7 (.reg .e)
  | bit_7_h => exact h_bit 7 (.reg .h)
  | bit_7_l => exact h_bit 7 (.reg .l)
  | bit_7_atHL => exact h_bit 7 .atHL
  | bit_7_a => exact h_bit 7 (.reg .a)
  | res_0_b => exact h_res 0 (.reg .b)
  | res_0_c => exact h_res 0 (.reg .c)
  | res_0_d => exact h_res 0 (.reg .d)
  | res_0_e => exact h_res 0 (.reg .e)
  | res_0_h => exact h_res 0 (.reg .h)
  | res_0_l => exact h_res 0 (.reg .l)
  | res_0_atHL => exact h_res 0 .atHL
  | res_0_a => exact h_res 0 (.reg .a)
  | res_1_b => exact h_res 1 (.reg .b)
  | res_1_c => exact h_res 1 (.reg .c)
  | res_1_d => exact h_res 1 (.reg .d)
  | res_1_e => exact h_res 1 (.reg .e)
  | res_1_h => exact h_res 1 (.reg .h)
  | res_1_l => exact h_res 1 (.reg .l)
  | res_1_atHL => exact h_res 1 .atHL
  | res_1_a => exact h_res 1 (.reg .a)
  | res_2_b => exact h_res 2 (.reg .b)
  | res_2_c => exact h_res 2 (.reg .c)
  | res_2_d => exact h_res 2 (.reg .d)
  | res_2_e => exact h_res 2 (.reg .e)
  | res_2_h => exact h_res 2 (.reg .h)
  | res_2_l => exact h_res 2 (.reg .l)
  | res_2_atHL => exact h_res 2 .atHL
  | res_2_a => exact h_res 2 (.reg .a)
  | res_3_b => exact h_res 3 (.reg .b)
  | res_3_c => exact h_res 3 (.reg .c)
  | res_3_d => exact h_res 3 (.reg .d)
  | res_3_e => exact h_res 3 (.reg .e)
  | res_3_h => exact h_res 3 (.reg .h)
  | res_3_l => exact h_res 3 (.reg .l)
  | res_3_atHL => exact h_res 3 .atHL
  | res_3_a => exact h_res 3 (.reg .a)
  | res_4_b => exact h_res 4 (.reg .b)
  | res_4_c => exact h_res 4 (.reg .c)
  | res_4_d => exact h_res 4 (.reg .d)
  | res_4_e => exact h_res 4 (.reg .e)
  | res_4_h => exact h_res 4 (.reg .h)
  | res_4_l => exact h_res 4 (.reg .l)
  | res_4_atHL => exact h_res 4 .atHL
  | res_4_a => exact h_res 4 (.reg .a)
  | res_5_b => exact h_res 5 (.reg .b)
  | res_5_c => exact h_res 5 (.reg .c)
  | res_5_d => exact h_res 5 (.reg .d)
  | res_5_e => exact h_res 5 (.reg .e)
  | res_5_h => exact h_res 5 (.reg .h)
  | res_5_l => exact h_res 5 (.reg .l)
  | res_5_atHL => exact h_res 5 .atHL
  | res_5_a => exact h_res 5 (.reg .a)
  | res_6_b => exact h_res 6 (.reg .b)
  | res_6_c => exact h_res 6 (.reg .c)
  | res_6_d => exact h_res 6 (.reg .d)
  | res_6_e => exact h_res 6 (.reg .e)
  | res_6_h => exact h_res 6 (.reg .h)
  | res_6_l => exact h_res 6 (.reg .l)
  | res_6_atHL => exact h_res 6 .atHL
  | res_6_a => exact h_res 6 (.reg .a)
  | res_7_b => exact h_res 7 (.reg .b)
  | res_7_c => exact h_res 7 (.reg .c)
  | res_7_d => exact h_res 7 (.reg .d)
  | res_7_e => exact h_res 7 (.reg .e)
  | res_7_h => exact h_res 7 (.reg .h)
  | res_7_l => exact h_res 7 (.reg .l)
  | res_7_atHL => exact h_res 7 .atHL
  | res_7_a => exact h_res 7 (.reg .a)
  | set_0_b => exact h_set 0 (.reg .b)
  | set_0_c => exact h_set 0 (.reg .c)
  | set_0_d => exact h_set 0 (.reg .d)
  | set_0_e => exact h_set 0 (.reg .e)
  | set_0_h => exact h_set 0 (.reg .h)
  | set_0_l => exact h_set 0 (.reg .l)
  | set_0_atHL => exact h_set 0 .atHL
  | set_0_a => exact h_set 0 (.reg .a)
  | set_1_b => exact h_set 1 (.reg .b)
  | set_1_c => exact h_set 1 (.reg .c)
  | set_1_d => exact h_set 1 (.reg .d)
  | set_1_e => exact h_set 1 (.reg .e)
  | set_1_h => exact h_set 1 (.reg .h)
  | set_1_l => exact h_set 1 (.reg .l)
  | set_1_atHL => exact h_set 1 .atHL
  | set_1_a => exact h_set 1 (.reg .a)
  | set_2_b => exact h_set 2 (.reg .b)
  | set_2_c => exact h_set 2 (.reg .c)
  | set_2_d => exact h_set 2 (.reg .d)
  | set_2_e => exact h_set 2 (.reg .e)
  | set_2_h => exact h_set 2 (.reg .h)
  | set_2_l => exact h_set 2 (.reg .l)
  | set_2_atHL => exact h_set 2 .atHL
  | set_2_a => exact h_set 2 (.reg .a)
  | set_3_b => exact h_set 3 (.reg .b)
  | set_3_c => exact h_set 3 (.reg .c)
  | set_3_d => exact h_set 3 (.reg .d)
  | set_3_e => exact h_set 3 (.reg .e)
  | set_3_h => exact h_set 3 (.reg .h)
  | set_3_l => exact h_set 3 (.reg .l)
  | set_3_atHL => exact h_set 3 .atHL
  | set_3_a => exact h_set 3 (.reg .a)
  | set_4_b => exact h_set 4 (.reg .b)
  | set_4_c => exact h_set 4 (.reg .c)
  | set_4_d => exact h_set 4 (.reg .d)
  | set_4_e => exact h_set 4 (.reg .e)
  | set_4_h => exact h_set 4 (.reg .h)
  | set_4_l => exact h_set 4 (.reg .l)
  | set_4_atHL => exact h_set 4 .atHL
  | set_4_a => exact h_set 4 (.reg .a)
  | set_5_b => exact h_set 5 (.reg .b)
  | set_5_c => exact h_set 5 (.reg .c)
  | set_5_d => exact h_set 5 (.reg .d)
  | set_5_e => exact h_set 5 (.reg .e)
  | set_5_h => exact h_set 5 (.reg .h)
  | set_5_l => exact h_set 5 (.reg .l)
  | set_5_atHL => exact h_set 5 .atHL
  | set_5_a => exact h_set 5 (.reg .a)
  | set_6_b => exact h_set 6 (.reg .b)
  | set_6_c => exact h_set 6 (.reg .c)
  | set_6_d => exact h_set 6 (.reg .d)
  | set_6_e => exact h_set 6 (.reg .e)
  | set_6_h => exact h_set 6 (.reg .h)
  | set_6_l => exact h_set 6 (.reg .l)
  | set_6_atHL => exact h_set 6 .atHL
  | set_6_a => exact h_set 6 (.reg .a)
  | set_7_b => exact h_set 7 (.reg .b)
  | set_7_c => exact h_set 7 (.reg .c)
  | set_7_d => exact h_set 7 (.reg .d)
  | set_7_e => exact h_set 7 (.reg .e)
  | set_7_h => exact h_set 7 (.reg .h)
  | set_7_l => exact h_set 7 (.reg .l)
  | set_7_atHL => exact h_set 7 .atHL
  | set_7_a => exact h_set 7 (.reg .a)

end Sys2Proof.Laws
end

