-- ==== Sys2Proof/Laws/Flags.lean ====
section
/-! SUPPORT. The flag byte and the arithmetic of the flag computations, in integers. -/

namespace Sys2Proof.Machine

section
variable (z n h c : Bool)

@[simp] theorem flagZ_packFlags : flagZ (packFlags z n h c) = z := by
  cases z <;> cases n <;> cases h <;> cases c <;> rfl
@[simp] theorem flagN_packFlags : flagN (packFlags z n h c) = n := by
  cases z <;> cases n <;> cases h <;> cases c <;> rfl
@[simp] theorem flagH_packFlags : flagH (packFlags z n h c) = h := by
  cases z <;> cases n <;> cases h <;> cases c <;> rfl
@[simp] theorem flagC_packFlags : flagC (packFlags z n h c) = c := by
  cases z <;> cases n <;> cases h <;> cases c <;> rfl
@[simp] theorem low_packFlags : packFlags z n h c &&& 0x0F = 0 := by
  cases z <;> cases n <;> cases h <;> cases c <;> rfl

theorem flagsAre_packFlags : FlagsAre (packFlags z n h c) z n h c :=
  ⟨flagZ_packFlags z n h c, flagN_packFlags z n h c, flagH_packFlags z n h c, flagC_packFlags z n h c,
    low_packFlags z n h c⟩

end

theorem and_0F_toNat (v : Byte) : (v &&& 0x0F).toNat = v.toNat % 16 := by
  rw [BitVec.toNat_and]
  exact Nat.and_two_pow_sub_one_eq_mod _ 4

theorem lowNibble_eq (v : Byte) : lowNibble v = v.toNat % 16 := and_0F_toNat v

theorem and_F0_and_0F (v : Byte) : v &&& 0xF0 &&& 0x0F = 0 := by
  rw [BitVec.and_assoc]
  simp

/-- A byte is 0 exactly if its number is. -/
theorem byte_beq_zero (x : Byte) : (x == 0) = decide (x.toNat = 0) := by
  rw [beq_eq_decide, decide_eq_decide]
  exact ⟨fun h => by rw [h]; rfl, fun h => BitVec.eq_of_toNat_eq h⟩

theorem carryIn_eq (f : Byte) : carryIn f = if f.getLsbD 4 then 1 else 0 := by
  unfold carryIn flagC
  cases f.getLsbD 4 <;> rfl

theorem carryIn_le (f : Byte) : carryIn f ≤ 1 := by
  rw [carryIn_eq]
  split <;> decide

/-- `Add8` in integers (rule R170). -/
theorem add8_eq (a b : Byte) (ci : Nat) :
    add8 a b ci =
      (BitVec.ofNat 8 (a.toNat + b.toNat + ci),
        packFlags (decide ((a.toNat + b.toNat + ci) % 256 = 0)) false (decide (a.toNat % 16 + b.toNat % 16 + ci > 15))
          (decide (a.toNat + b.toNat + ci > 255))) := by
  simp only [add8, lowNibble_eq, byte_beq_zero, BitVec.toNat_ofNat]

/-- `Sub8` in integers (rule R170). -/
theorem sub8_eq (a b : Byte) (ci : Nat) :
    sub8 a b ci =
      (BitVec.ofInt 8 ((a.toNat : Int) - b.toNat - ci),
        packFlags (decide (((a.toNat : Int) - b.toNat - ci) % 256 = 0)) true (decide (a.toNat % 16 < b.toNat % 16 + ci))
          (decide (a.toNat < b.toNat + ci))) := by
  have hr : a - b - BitVec.ofNat 8 ci = BitVec.ofInt 8 ((a.toNat : Int) - b.toNat - ci) := by
    apply BitVec.eq_of_toNat_eq
    have ha := a.isLt
    have hb := b.isLt
    rw [BitVec.toNat_ofInt, BitVec.toNat_sub, BitVec.toNat_sub, BitVec.toNat_ofNat]
    omega
  have hz : (BitVec.ofInt 8 ((a.toNat : Int) - b.toNat - ci) == 0) =
      decide (((a.toNat : Int) - b.toNat - ci) % 256 = 0) := by
    rw [byte_beq_zero, decide_eq_decide, BitVec.toNat_ofInt]
    omega
  simp only [sub8, lowNibble_eq, hr, hz]

end Sys2Proof.Machine
end

