-- ==== Sys2Proof/Laws/Instr.lean ====
section
/-! SUPPORT. One lemma per shared operation of the instruction families: everything it does to the state, as one record. -/

namespace Sys2Proof.Machine

open Sys2Proof.Laws

theorem highPage_eq (n : Byte) : highPage n = 0xFF00 + n.setWidth 16 := by
  apply BitVec.eq_of_toNat_eq
  rw [highPage, joinBytes_toNat]
  have := n.isLt
  simp
  omega

/-! Loads. -/

theorem loadByte_eq (dst : R8) (ea : Word) (n : Nat) (s : State) :
    loadByte dst ea n s = { s.afterRead ea with regs := s.regs.set dst (s.memRead ea), cycles := s.cycles + n } := by
  simp [loadByte, State.addCycles, State.setReg]

theorem storeByte_eq (ea : Word) (v : Byte) (n : Nat) (s : State) :
    storeByte ea v n s = { s.busWrite ea v with regs := s.regs, cycles := s.cycles + n } := by
  simp [storeByte, State.addCycles, State.memWrite]

/-! Operands. -/

section
variable (s : State) (src : Source) (o : Opnd)

@[simp] theorem State.afterReadOpnd_regs : (s.afterReadOpnd o).regs = s.regs := by
  cases o <;> first | rfl | exact State.afterRead_regs _ _

@[simp] theorem State.afterReadOpnd_cycles : (s.afterReadOpnd o).cycles = s.cycles := by
  cases o <;> first | rfl | exact State.afterRead_cycles _ _

@[simp] theorem State.afterReadSource_regs : (s.afterReadSource src).regs = s.regs := by
  cases src <;> first | rfl | exact State.afterReadOpnd_regs _ _

@[simp] theorem State.afterReadSource_cycles : (s.afterReadSource src).cycles = s.cycles := by
  cases src <;> first | rfl | exact State.afterReadOpnd_cycles _ _

end

theorem usesSource_of_exec {i : Instr} {s : State} {src : Source} {r : Regs} {n : Nat}
    (h : exec i s = .next { s.afterReadSource src with regs := r, cycles := s.cycles + (n + sourceCost src) }) :
    UsesSource i s src r n := by
  unfold UsesSource
  match src, h with
  | .opnd (.reg _), h => exact registerOnly_of_exec h
  | .opnd .atHL, h => exact readsAt_of_exec h
  | .imm _, h => exact registerOnly_of_exec h

/-- A read-write operand that becomes `v`, with the flag byte `f`. -/
theorem modifiesOpnd_of_exec {i : Instr} {s : State} {o : Opnd} {v f : Byte} {n : Nat}
    (h : exec i s = .next ((((s.afterReadOpnd o).writeOpnd o v).setF f).addCycles (n + 2 * opndCost o))) :
    ModifiesOpnd i s o v f n := by
  unfold ModifiesOpnd
  match o, h with
  | .reg q, h =>
    refine registerOnly_of_exec ?_
    rw [h]
    rfl
  | .atHL, h =>
    refine modifiesAt_of_exec ?_
    rw [h]
    simp [State.addCycles, State.setF, State.writeOpnd, State.memWrite, State.afterReadOpnd, opndCost]

/-! The accumulator operations. -/

theorem exec_aluOn (op : AluOp) (src : Source) (s : State) : exec (aluOn op src) s = .next (accumulate op src s) := by
  cases src with
  | opnd o => exact exec_alu op o s
  | imm n => exact exec_aluImm op n s

theorem accumulate_eq (op : AluOp) (src : Source) (s : State) :
    accumulate op src s =
      { s.afterReadSource src with
        regs := { s.regs with a := (aluApply op s.regs.a (s.readSource src) s.regs.f).1,
                              f := (aluApply op s.regs.a (s.readSource src) s.regs.f).2 }
        cycles := s.cycles + (4 + sourceCost src) } := by
  simp [accumulate, State.setReg, State.setF, State.addCycles, Regs.set]

/-! Control flow. -/

theorem jumpIf_eq (cc : Cond) (a : Word) (taken notTaken : Nat) (s : State) :
    jumpIf cc a taken notTaken s =
      { s with regs := { s.regs with pc := if condHolds cc s.regs.f then a else s.regs.pc },
               cycles := s.cycles + if condHolds cc s.regs.f then taken else notTaken } := by
  unfold jumpIf
  cases condHolds cc s.regs.f <;> rfl

theorem callTo_eq (a : Word) (cost : Nat) (s : State) :
    callTo a cost s = { (s.push16 s.regs.pc).setPC a with cycles := s.cycles + cost } := by
  rw [State.push16_eq]
  simp [callTo, State.push16_eq, State.addCycles, State.setPC]

theorem returnFromCall_eq (cost : Nat) (s : State) :
    returnFromCall cost s =
      { s.pop16.2 with regs := { s.regs with pc := s.stackTop, sp := s.regs.sp + 2 }, ime := s.ime,
                       cycles := s.cycles + cost } := by
  unfold returnFromCall
  rw [State.pop16_eq]
  simp [State.addCycles, State.setPC]

theorem pushPair_eq (p : StackPair) (s : State) :
    pushPair p s = { s.push16 (s.regs.getStackPair p) with cycles := s.cycles + 16 } := by
  simp [pushPair, State.push16_eq, State.addCycles]

theorem popPair_eq (p : StackPair) (s : State) :
    popPair p s =
      { s.pop16.2 with regs := { s.regs.setStackPair p s.stackTop with sp := s.regs.sp + 2 }, ime := s.ime,
                       cycles := s.cycles + 12 } := by
  unfold popPair
  rw [State.pop16_eq]
  cases p <;> simp [State.addCycles, Regs.setStackPair, Regs.setBC, Regs.setDE, Regs.setHL, Regs.setAF]

end Sys2Proof.Machine
end

