-- ==== Sys2Proof/Laws/Frame.lean ====
section
/-! SUPPORT. What an instruction can do at all, said once: it updates CPU state and the draw counter, and it writes to the bus.
Whatever those two keep, every instruction keeps. -/

namespace Sys2Proof.Machine

open Sys2Proof.Laws

/-- A property kept by every update of the CPU's own state, the fault left aside, and by every bus write. -/
structure RunKeeps (P : State → Prop) : Prop where
  cpu : ∀ (s : State) (r : Regs) (ime halted : Bool) (cycles draws : Nat), P s →
    P { s with regs := r, ime := ime, halted := halted, cycles := cycles, draws := draws }
  bus : ∀ (s : State) (x : Word) (v : Byte), P s → P (s.busWrite x v)

namespace RunKeeps

variable {P : State → Prop} (k : RunKeeps P) {s : State}
include k

theorem addCycles (n : Nat) (h : P s) : P (s.addCycles n) := k.cpu s _ _ _ _ _ h
theorem setReg (r : R8) (v : Byte) (h : P s) : P (s.setReg r v) := k.cpu s _ _ _ _ _ h
theorem setF (f : Byte) (h : P s) : P (s.setF f) := k.cpu s _ _ _ _ _ h
theorem setPC (w : Word) (h : P s) : P (s.setPC w) := k.cpu s _ _ _ _ _ h
theorem setSP (w : Word) (h : P s) : P (s.setSP w) := k.cpu s _ _ _ _ _ h
theorem setHL (w : Word) (h : P s) : P (s.setHL w) := k.cpu s _ _ _ _ _ h
theorem setRegs (r : Regs) (h : P s) : P { s with regs := r } := k.cpu s _ _ _ _ _ h

theorem afterRead (a : Word) (h : P s) : P (s.afterRead a) := by
  obtain ⟨n, hn⟩ := s.afterRead_eq a
  rw [hn]
  exact k.cpu s _ _ _ _ _ h

theorem afterReadOpnd (o : Opnd) (h : P s) : P (s.afterReadOpnd o) := by
  cases o with
  | reg r => exact h
  | atHL => exact k.afterRead _ h

theorem afterReadSource (src : Source) (h : P s) : P (s.afterReadSource src) := by
  cases src with
  | opnd o => exact k.afterReadOpnd o h
  | imm n => exact h

theorem writeOpnd (o : Opnd) (v : Byte) (h : P s) : P (s.writeOpnd o v) := by
  cases o with
  | reg r => exact k.setReg r v h
  | atHL => exact k.bus _ _ _ h

theorem push16 (w : Word) (h : P s) : P (s.push16 w) := by
  rw [State.push16_eq]
  exact k.setRegs _ (k.bus _ _ _ (k.bus _ _ _ h))

theorem pop16 (h : P s) : P s.pop16.2 := by
  rw [State.pop16_eq]
  exact k.setRegs _ (k.afterRead _ (k.afterRead _ h))

theorem loadByte (dst : R8) (ea : Word) (n : Nat) (h : P s) : P (loadByte dst ea n s) :=
  k.addCycles _ (k.setReg _ _ (k.afterRead _ h))

theorem storeByte (ea : Word) (v : Byte) (n : Nat) (h : P s) : P (storeByte ea v n s) :=
  k.addCycles _ (k.bus _ _ _ h)

theorem jumpIf (cc : Cond) (a : Word) (m n : Nat) (h : P s) : P (jumpIf cc a m n s) := by
  rw [jumpIf_eq]
  exact k.cpu s _ _ _ _ _ h

theorem callTo (a : Word) (n : Nat) (h : P s) : P (callTo a n s) := k.addCycles _ (k.setPC _ (k.push16 _ h))

theorem callIf (cc : Cond) (a : Word) (h : P s) : P (callIf cc a s) := by
  unfold Machine.callIf
  split
  · exact k.callTo _ _ h
  · exact k.addCycles _ h

theorem returnFromCall (n : Nat) (h : P s) : P (returnFromCall n s) := k.addCycles _ (k.setPC _ (k.pop16 h))

theorem returnIf (cc : Cond) (h : P s) : P (returnIf cc s) := by
  unfold Machine.returnIf
  split
  · exact k.returnFromCall _ h
  · exact k.addCycles _ h

/-- Every instruction but the unassigned opcodes keeps it. -/
theorem exec (i : Instr) {s t : State} (h : P s) (ht : exec i s = .next t) (hi : ∀ u, i ≠ Instr.illegal u) : P t := by
  cases i using instr_family_cases with
  | h_ldRegReg dst src => rw [exec_ldRegReg] at ht; cases ht; exact k.addCycles _ (k.setReg _ _ h)
  | h_ldImm o n => rw [exec_ldImm] at ht; cases ht; exact k.addCycles _ (k.writeOpnd _ _ h)
  | h_ldRegMem r => rw [exec_ldRegMem] at ht; cases ht; exact k.loadByte _ _ _ h
  | h_ldMemReg r => rw [exec_ldMemReg] at ht; cases ht; exact k.storeByte _ _ _ h
  | h_ldPair p w => rw [exec_ldPair] at ht; cases ht; exact k.addCycles _ (k.setRegs _ h)
  | h_push p => rw [exec_push] at ht; cases ht; exact k.addCycles _ (k.push16 _ h)
  | h_pop p => rw [exec_pop] at ht; cases ht; exact k.addCycles _ (k.setRegs _ (k.pop16 h))
  | h_alu op o =>
    rw [exec_alu] at ht
    cases ht
    exact k.addCycles _ (k.setF _ (k.setReg _ _ (k.afterReadSource _ h)))
  | h_aluImm op n =>
    rw [exec_aluImm] at ht
    cases ht
    exact k.addCycles _ (k.setF _ (k.setReg _ _ (k.afterReadSource _ h)))
  | h_inc o =>
    rw [exec_inc] at ht
    cases ht
    exact k.addCycles _ (k.setF _ (k.writeOpnd _ _ (k.afterReadOpnd _ h)))
  | h_dec o =>
    rw [exec_dec] at ht
    cases ht
    exact k.addCycles _ (k.setF _ (k.writeOpnd _ _ (k.afterReadOpnd _ h)))
  | h_addHL p => rw [exec_addHL] at ht; cases ht; exact k.addCycles _ (k.setF _ (k.setHL _ h))
  | h_incPair p => rw [exec_incPair] at ht; cases ht; exact k.addCycles _ (k.setRegs _ h)
  | h_decPair p => rw [exec_decPair] at ht; cases ht; exact k.addCycles _ (k.setRegs _ h)
  | h_rot op o =>
    rw [exec_rot] at ht
    cases ht
    exact k.addCycles _ (k.setF _ (k.writeOpnd _ _ (k.afterReadOpnd _ h)))
  | h_bit b o => rw [exec_bit] at ht; cases ht; exact k.addCycles _ (k.setF _ (k.afterReadOpnd _ h))
  | h_res b o =>
    rw [exec_res] at ht
    cases ht
    exact k.addCycles _ (k.writeOpnd _ _ (k.afterReadOpnd _ h))
  | h_set b o =>
    rw [exec_set] at ht
    cases ht
    exact k.addCycles _ (k.writeOpnd _ _ (k.afterReadOpnd _ h))
  | h_jrCond cc e => rw [exec_jrCond] at ht; cases ht; exact k.jumpIf _ _ _ _ h
  | h_jpCond cc w => rw [exec_jpCond] at ht; cases ht; exact k.jumpIf _ _ _ _ h
  | h_callCond cc w => rw [exec_callCond] at ht; cases ht; exact k.callIf _ _ h
  | h_retCond cc => rw [exec_retCond] at ht; cases ht; exact k.returnIf _ h
  | h_rst y => rw [exec_rst] at ht; cases ht; exact k.callTo _ _ h
  | h_illegal u => exact absurd rfl (hi u)
  | h_nop => cases ht; exact k.cpu s _ _ _ _ _ h
  | h_ld_atBC_a => cases ht; exact k.storeByte _ _ _ h
  | h_rlca => cases ht; exact k.cpu s _ _ _ _ _ h
  | h_ld_atN16_sp w => cases ht; exact k.addCycles _ (k.bus _ _ _ (k.bus _ _ _ h))
  | h_ld_a_atBC => cases ht; exact k.loadByte _ _ _ h
  | h_rrca => cases ht; exact k.cpu s _ _ _ _ _ h
  | h_stop => cases ht; exact k.cpu s _ _ _ _ _ h
  | h_ld_atDE_a => cases ht; exact k.storeByte _ _ _ h
  | h_rla => cases ht; exact k.cpu s _ _ _ _ _ h
  | h_jr_e8 e => cases ht; exact k.cpu s _ _ _ _ _ h
  | h_ld_a_atDE => cases ht; exact k.loadByte _ _ _ h
  | h_rra => cases ht; exact k.cpu s _ _ _ _ _ h
  | h_ld_atHLinc_a => cases ht; exact k.setHL _ (k.storeByte _ _ _ h)
  | h_daa => cases ht; exact k.cpu s _ _ _ _ _ h
  | h_ld_a_atHLinc => cases ht; exact k.setHL _ (k.loadByte _ _ _ h)
  | h_cpl => cases ht; exact k.cpu s _ _ _ _ _ h
  | h_ld_atHLdec_a => cases ht; exact k.setHL _ (k.storeByte _ _ _ h)
  | h_scf => cases ht; exact k.cpu s _ _ _ _ _ h
  | h_ld_a_atHLdec => cases ht; exact k.setHL _ (k.loadByte _ _ _ h)
  | h_ccf => cases ht; exact k.cpu s _ _ _ _ _ h
  | h_halt => cases ht; exact k.cpu s _ _ _ _ _ h
  | h_jp_n16 w => cases ht; exact k.cpu s _ _ _ _ _ h
  | h_ret => cases ht; exact k.returnFromCall _ h
  | h_call_n16 w => cases ht; exact k.callTo _ _ h
  | h_reti =>
    cases ht
    exact k.addCycles _ (k.cpu (s.pop16.2.setPC s.pop16.1) _ _ _ _ _ (k.setPC _ (k.pop16 h)))
  | h_ldh_atN8_a n => cases ht; exact k.storeByte _ _ _ h
  | h_ldh_atC_a => cases ht; exact k.storeByte _ _ _ h
  | h_add_sp_e8 e => cases ht; exact k.cpu s _ _ _ _ _ h
  | h_jp_hl => cases ht; exact k.cpu s _ _ _ _ _ h
  | h_ld_atN16_a w => cases ht; exact k.storeByte _ _ _ h
  | h_ldh_a_atN8 n => cases ht; exact k.loadByte _ _ _ h
  | h_ldh_a_atC => cases ht; exact k.loadByte _ _ _ h
  | h_di => cases ht; exact k.cpu s _ _ _ _ _ h
  | h_ld_hl_spE8 e => cases ht; exact k.cpu s _ _ _ _ _ h
  | h_ld_sp_hl => cases ht; exact k.cpu s _ _ _ _ _ h
  | h_ld_a_atN16 w => cases ht; exact k.loadByte _ _ _ h
  | h_ei => cases ht; exact k.cpu s _ _ _ _ _ h

end RunKeeps

/-- A property kept by the fatal fault as well. -/
structure ExecKeeps (P : State → Prop) : Prop extends RunKeeps P where
  fatal : ∀ (s : State) (r : Regs) (f : Fault), P s → P { s with regs := r, fault := some f, cycles := 0 }

/-- Every instruction keeps it. -/
theorem ExecKeeps.exec {P : State → Prop} (k : ExecKeeps P) (i : Instr) {s t : State} (h : P s)
    (ht : exec i s = .next t) : P t := by
  by_cases hi : ∃ u, i = Instr.illegal u
  · obtain ⟨u, rfl⟩ := hi
    rw [exec_illegal] at ht
    cases ht
    exact k.fatal s _ _ h
  · exact k.toRunKeeps.exec i h ht fun u hu => hi ⟨u, hu⟩

end Sys2Proof.Machine
end

