-- ==== Sys2Proof/Laws/Cost.lean ====
section
/-! SUPPORT. What each instruction leaves of the fault, and the range of its cost. -/

namespace Sys2Proof.Machine

open Sys2Proof.Laws

@[simp] theorem State.writeOpnd_cycles (s : State) (o : Opnd) (v : Byte) : (s.writeOpnd o v).cycles = s.cycles := by
  cases o <;> simp [State.writeOpnd, State.memWrite]

@[simp] theorem State.push16_cycles (s : State) (w : Word) : (s.push16 w).cycles = s.cycles := by
  rw [State.push16_eq]
  simp

@[simp] theorem State.pop16_cycles (s : State) : s.pop16.2.cycles = s.cycles := by
  rw [State.pop16_eq]
  simp

theorem opndCost_le (o : Opnd) : opndCost o ≤ 4 := by
  cases o with
  | reg r => exact Nat.zero_le 4
  | atHL => exact Nat.le_refl 4

theorem sourceCost_le (src : Source) : sourceCost src ≤ 4 := by
  cases src with
  | opnd o => exact opndCost_le o
  | imm n => exact Nat.le_refl 4

/-- An instruction other than an unassigned opcode costs 4 to 24 cycles (rules R12, R129 to R279). -/
theorem exec_cost (i : Instr) {s t : State} (h : exec i s = .next t) (hi : ∀ u, i ≠ Instr.illegal u) :
    s.cycles + 4 ≤ t.cycles ∧ t.cycles ≤ s.cycles + 24 := by
  cases i using instr_family_cases with
  | h_ldRegReg dst src =>
    rw [exec_ldRegReg] at h
    cases h
    simp [ldRegReg]
  | h_ldImm o n =>
    rw [exec_ldImm] at h
    cases h
    have := opndCost_le o
    simp [ldOpndImm]
    omega
  | h_ldRegMem r =>
    rw [exec_ldRegMem] at h
    cases h
    simp [loadByte_eq]
  | h_ldMemReg r =>
    rw [exec_ldMemReg] at h
    cases h
    simp [storeByte_eq]
  | h_ldPair p w =>
    rw [exec_ldPair] at h
    cases h
    simp [ldPairImm]
  | h_push p =>
    rw [exec_push] at h
    cases h
    simp [pushPair]
  | h_pop p =>
    rw [exec_pop] at h
    cases h
    simp [popPair]
  | h_alu op o =>
    rw [exec_alu] at h
    cases h
    have := sourceCost_le (.opnd o)
    simp [accumulate]
    omega
  | h_aluImm op n =>
    rw [exec_aluImm] at h
    cases h
    have := sourceCost_le (.imm n)
    simp [accumulate]
    omega
  | h_inc o =>
    rw [exec_inc] at h
    cases h
    have := opndCost_le o
    simp [incOpnd]
    omega
  | h_dec o =>
    rw [exec_dec] at h
    cases h
    have := opndCost_le o
    simp [decOpnd]
    omega
  | h_addHL p =>
    rw [exec_addHL] at h
    cases h
    simp [addHLPair]
  | h_incPair p =>
    rw [exec_incPair] at h
    cases h
    simp [incPair]
  | h_decPair p =>
    rw [exec_decPair] at h
    cases h
    simp [decPair]
  | h_rot op o =>
    rw [exec_rot] at h
    cases h
    have := opndCost_le o
    simp [rotateOpnd]
    omega
  | h_bit b o =>
    rw [exec_bit] at h
    cases h
    have := opndCost_le o
    simp [testBit]
    omega
  | h_res b o =>
    rw [exec_res] at h
    cases h
    have := opndCost_le o
    simp [resetBit]
    omega
  | h_set b o =>
    rw [exec_set] at h
    cases h
    have := opndCost_le o
    simp [setBit]
    omega
  | h_jrCond cc e =>
    rw [exec_jrCond] at h
    cases h
    rw [jumpIf_eq]
    dsimp only
    split <;> omega
  | h_jpCond cc w =>
    rw [exec_jpCond] at h
    cases h
    rw [jumpIf_eq]
    dsimp only
    split <;> omega
  | h_callCond cc w =>
    rw [exec_callCond] at h
    cases h
    simp only [callIf]
    split <;> simp [callTo]
  | h_retCond cc =>
    rw [exec_retCond] at h
    cases h
    simp only [returnIf]
    split <;> simp [returnFromCall]
  | h_rst y =>
    rw [exec_rst] at h
    cases h
    simp [callTo]
  | h_illegal u => exact absurd rfl (hi u)
  | h_nop =>
    cases h
    simp
  | h_ld_atBC_a =>
    cases h
    simp [storeByte_eq]
  | h_rlca =>
    cases h
    simp [rotateA]
  | h_ld_atN16_sp w =>
    cases h
    simp [storeSP, State.memWrite]
  | h_ld_a_atBC =>
    cases h
    simp [loadByte_eq]
  | h_rrca =>
    cases h
    simp [rotateA]
  | h_stop =>
    cases h
    simp
  | h_ld_atDE_a =>
    cases h
    simp [storeByte_eq]
  | h_rla =>
    cases h
    simp [rotateA]
  | h_jr_e8 e =>
    cases h
    simp [jumpTo]
  | h_ld_a_atDE =>
    cases h
    simp [loadByte_eq]
  | h_rra =>
    cases h
    simp [rotateA]
  | h_ld_atHLinc_a =>
    cases h
    simp [storeByte_eq]
  | h_daa =>
    cases h
    simp [decimalAdjust]
  | h_ld_a_atHLinc =>
    cases h
    simp [loadByte_eq]
  | h_cpl =>
    cases h
    simp [complementA]
  | h_ld_atHLdec_a =>
    cases h
    simp [storeByte_eq]
  | h_scf =>
    cases h
    simp [setCarry]
  | h_ld_a_atHLdec =>
    cases h
    simp [loadByte_eq]
  | h_ccf =>
    cases h
    simp [complementCarry]
  | h_halt =>
    cases h
    simp
  | h_jp_n16 w =>
    cases h
    simp [jumpTo]
  | h_ret =>
    cases h
    simp [returnFromCall]
  | h_call_n16 w =>
    cases h
    simp [callTo]
  | h_reti =>
    cases h
    simp [State.returnFromInterrupt]
  | h_ldh_atN8_a n =>
    cases h
    simp [storeByte_eq]
  | h_ldh_atC_a =>
    cases h
    simp [storeByte_eq]
  | h_add_sp_e8 e =>
    cases h
    simp [addSPOffset]
  | h_jp_hl =>
    cases h
    simp [jumpTo]
  | h_ld_atN16_a w =>
    cases h
    simp [storeByte_eq]
  | h_ldh_a_atN8 n =>
    cases h
    simp [loadByte_eq]
  | h_ldh_a_atC =>
    cases h
    simp [loadByte_eq]
  | h_di =>
    cases h
    simp
  | h_ld_hl_spE8 e =>
    cases h
    simp [ldHLSPOffset]
  | h_ld_sp_hl =>
    cases h
    simp
  | h_ld_a_atN16 w =>
    cases h
    simp [loadByte_eq]
  | h_ei =>
    cases h
    simp

/-- Only an unassigned opcode touches the fault. -/
theorem exec_fault (i : Instr) {s t : State} (h : exec i s = .next t) (hi : ∀ u, i ≠ Instr.illegal u) :
    t.fault = s.fault := by
  have k : RunKeeps (fun u => u.fault = s.fault) :=
    ⟨fun _ _ _ _ _ _ h => h, fun u x v h => (State.busWrite_fault u x v).trans h⟩
  exact k.exec i rfl h hi

end Sys2Proof.Machine
end

