-- ==== Sys2Proof/Laws/Updates.lean ====
section
/-! SUPPORT. What the other parts of a step can do: the host's turn, the interrupt check and the updates, each as one record
update; and the cases of a step. -/

namespace Sys2Proof.Machine

/-! The parts of `Display.Update`. -/

/-- The transfer writes OAM, and takes a free value for a byte of the audio range. -/
theorem State.dmaBytes_eq (page : Byte) (n : Nat) (s : State) :
    ∃ oam draws, State.dmaBytes page n s = { s with display := { s.display with oam := oam }, draws := draws } := by
  induction n with
  | zero => exact ⟨s.display.oam, s.draws, rfl⟩
  | succ n ih =>
    obtain ⟨oam, draws, h⟩ := ih
    obtain ⟨m, hm⟩ := (State.dmaBytes page n s).afterRead_eq (BitVec.ofNat 16 (page.toNat * 0x100 + n))
    simp only [State.dmaBytes, State.dmaByte]
    rw [hm, h]
    exact ⟨_, _, rfl⟩

theorem State.dmaPhase_eq (s : State) (c : Nat) :
    ∃ oam pending budget draws, s.dmaPhase c =
      { s with display := { s.display with oam := oam, dmaPending := pending, dmaBudget := budget }, draws := draws } := by
  unfold State.dmaPhase
  split
  · obtain ⟨oam, draws, h⟩ := State.dmaBytes_eq s.display.dma 160 s
    dsimp only
    rw [h]
    exact ⟨_, _, _, _, rfl⟩
  · exact ⟨s.display.oam, s.display.dmaPending, _, s.draws, rfl⟩

theorem State.statRequest_eq (s : State) (b : Nat) :
    ∃ intFlag halted, s.statRequest b = { s with intFlag := intFlag, halted := halted } := by
  unfold State.statRequest
  split
  · exact ⟨_, _, rfl⟩
  · exact ⟨s.intFlag, s.halted, rfl⟩

/-- What a mode evaluation may write: STAT, LY, the mode clock, IF, `halted` and the events. -/
def State.modeFrame (s t : State) : Prop :=
  t =
    { s with
      display := { s.display with stat := t.display.stat, ly := t.display.ly, modeClock := t.display.modeClock }
      intFlag := t.intFlag
      halted := t.halted
      events := t.events }

/-- Moving the mode clock first changes nothing of what may be written. -/
theorem State.modeFrame_clock {s t : State} (n : Nat)
    (h : State.modeFrame { s with display := { s.display with modeClock := n } } t) : s.modeFrame t := h

theorem State.endOamScan_frame (s : State) : s.modeFrame s.endOamScan :=
  State.modeFrame_clock (s.display.modeClock - 80) rfl

theorem State.endVramScan_frame (s : State) : s.modeFrame s.endVramScan := by
  refine State.modeFrame_clock (s.display.modeClock - 172) ?_
  unfold State.endVramScan State.consumeModeClock State.statRequest
  generalize s.display.modeClock - 172 = n
  split <;> rfl

theorem State.endHBlank_frame (s : State) : s.modeFrame s.endHBlank := by
  refine State.modeFrame_clock (s.display.modeClock - 204) ?_
  unfold State.endHBlank State.consumeModeClock State.statRequest
  generalize s.display.modeClock - 204 = n
  dsimp only
  split <;> split <;> rfl

theorem State.endVBlankLine_frame (s : State) : s.modeFrame s.endVBlankLine := by
  refine State.modeFrame_clock (s.display.modeClock - 456) ?_
  unfold State.endVBlankLine State.consumeModeClock State.statRequest
  generalize s.display.modeClock - 456 = n
  dsimp only
  split
  · split <;> rfl
  · rfl

theorem State.modeEval_frame (s : State) (c : Nat) : s.modeFrame (s.modeEval c) := by
  refine State.modeFrame_clock (s.display.modeClock + c) ?_
  unfold State.modeEval
  dsimp only
  split
  · split
    · exact State.endOamScan_frame _
    · rfl
  · split
    · exact State.endVramScan_frame _
    · rfl
  · split
    · exact State.endHBlank_frame _
    · rfl
  · split
    · exact State.endVBlankLine_frame _
    · rfl

theorem State.coincidence_eq (s : State) :
    ∃ stat intFlag halted, s.coincidence =
      { s with display := { s.display with stat := stat }, intFlag := intFlag, halted := halted } := by
  unfold State.coincidence
  split
  · obtain ⟨i, h, e⟩ := State.statRequest_eq { s with display := s.display.setCoincidence true } 6
    rw [e]
    exact ⟨_, _, _, rfl⟩
  · exact ⟨_, _, _, rfl⟩

/-- `Display.Update` changes the display's OAM, STAT, LY and counters, requests interrupts, emits events, and nothing else. -/
theorem State.displayUpdate_eq (s : State) (c : Nat) :
    ∃ oam pending budget stat ly clock intFlag halted events draws, s.displayUpdate c =
      { s with
        display := { s.display with oam := oam, dmaPending := pending, dmaBudget := budget, stat := stat, ly := ly,
                                    modeClock := clock }
        intFlag := intFlag
        halted := halted
        events := events
        draws := draws } := by
  unfold State.displayUpdate
  obtain ⟨oam, pending, budget, draws, h⟩ := s.dmaPhase_eq c
  dsimp only
  split
  · rw [h]
    exact ⟨_, _, _, _, _, _, s.intFlag, s.halted, s.events, _, rfl⟩
  · obtain ⟨stat', i', hl', h''⟩ := ((s.dmaPhase c).modeEval c).coincidence_eq
    rw [h'', State.modeEval_frame, h]
    exact ⟨_, _, _, _, _, _, _, _, _, _, rfl⟩

/-! `Timer.Update`. -/

theorem State.timaCounts_eq (n : Nat) (s : State) :
    ∃ tima intFlag halted, State.timaCounts n s =
      { s with timer := { s.timer with tima := tima }, intFlag := intFlag, halted := halted } := by
  induction n generalizing s with
  | zero => exact ⟨s.timer.tima, s.intFlag, s.halted, rfl⟩
  | succ n ih =>
    obtain ⟨tima, i, h, e⟩ := ih s.timaCount
    simp only [State.timaCounts, e]
    unfold State.timaCount
    split <;> exact ⟨_, _, _, rfl⟩

/-- `Timer.Update` changes DIV, TIMA and their clocks, requests the timer's interrupt, and nothing else. -/
theorem State.timerUpdate_eq (s : State) (c : Nat) :
    ∃ div tima divClock timaClock intFlag halted, s.timerUpdate c =
      { s with
        timer := { s.timer with div := div, tima := tima, divClock := divClock, timaClock := timaClock }
        intFlag := intFlag
        halted := halted } := by
  unfold State.timerUpdate State.timaUpdate State.divUpdate
  dsimp only
  split
  · obtain ⟨tima, i, h, e⟩ := State.timaCounts_eq ((s.timer.timaClock + c) / timaPeriod s.timer.tac)
      { s with timer := { s.timer with divClock := (s.timer.divClock + c) % 256,
                                       div := s.timer.div + BitVec.ofNat 8 ((s.timer.divClock + c) / 256),
                                       timaClock := (s.timer.timaClock + c) % timaPeriod s.timer.tac } }
    exact ⟨_, _, _, _, _, _, e⟩
  · exact ⟨_, s.timer.tima, _, s.timer.timaClock, s.intFlag, s.halted, rfl⟩

/-! The host and the interrupt check. -/

theorem State.hostTurn_eq (s : State) :
    ∃ dir act intFlag halted inputs, s.hostTurn =
      { s with joypad := { s.joypad with dir := dir, act := act }, intFlag := intFlag, halted := halted,
               hostInputs := inputs } := by
  unfold State.hostTurn
  split
  · exact ⟨s.joypad.dir, s.joypad.act, s.intFlag, s.halted, s.hostInputs, rfl⟩
  · exact ⟨s.joypad.dir, s.joypad.act, s.intFlag, s.halted, _, rfl⟩
  · unfold State.setButtons
    dsimp only
    split <;> exact ⟨_, _, _, _, _, rfl⟩

theorem State.selectSource_eq (s : State) : ∃ draws, s.selectSource.2 = { s with draws := draws } := by
  unfold State.selectSource
  split
  · exact ⟨s.draws, rfl⟩
  · exact ⟨_, rfl⟩

/-- An entry into an interrupt is a push and an update of CPU state and IF. -/
theorem State.enterInterrupt_eq (s : State) :
    s.enterInterrupt =
      { (s.busWrite (s.regs.sp - 1) (hiByte s.regs.pc)).busWrite (s.regs.sp - 2) (loByte s.regs.pc) with
        regs := s.enterInterrupt.regs, ime := false, halted := false, intFlag := s.enterInterrupt.intFlag,
        cycles := s.cycles + s.params.intDispatchCycles, draws := s.enterInterrupt.draws } := by
  obtain ⟨n, h⟩ := (({ s with ime := false, halted := false } : State).push16 s.regs.pc).selectSource_eq
  unfold State.enterInterrupt
  dsimp only
  rw [h, State.push16_eq]
  dsimp only
  rw [State.busWrite_update s s.regs false false s.fault s.cycles s.totalCycles s.draws s.hostInputs,
    State.busWrite_update _ s.regs false false s.fault s.cycles s.totalCycles s.draws s.hostInputs]
  simp [State.takeSource, State.setPC, State.addCycles]

end Sys2Proof.Machine
end

