-- ==== Sys2Proof/Laws/Display.lean ====
section
/-! SUPPORT. STAT's fields, and what each transition of the display leaves in each field. -/

namespace Sys2Proof.Machine

/-! STAT (rule R302). -/

section
variable (d : Display) (m : BitVec 2) (b : Bool)

@[simp] theorem Display.mode_setMode : (d.setMode m).mode = m := by
  have h : ∀ (st : Byte) (m : BitVec 2), ((st &&& 0xFC) ||| m.setWidth 8).extractLsb' 0 2 = m := by decide
  exact h d.stat m

@[simp] theorem Display.mode_setCoincidence : (d.setCoincidence b).mode = d.mode := by
  have h : ∀ (st : Byte) (b : Bool), (if b then st ||| 0x04 else st &&& 0xFB).extractLsb' 0 2 = st.extractLsb' 0 2 := by
    decide
  exact h d.stat b

/-- A mode change keeps the coincidence bit and the four enables. -/
theorem Display.setMode_stat_bit (k : Nat) (h : 2 ≤ k) (h' : k < 8) :
    (d.setMode m).stat.getLsbD k = d.stat.getLsbD k := by
  have hk : ∀ k, k < 8 → 2 ≤ k → (0xFC : Byte).getLsbD k = true := by decide
  show ((d.stat &&& 0xFC) ||| m.setWidth 8).getLsbD k = d.stat.getLsbD k
  rw [BitVec.getLsbD_or, BitVec.getLsbD_and, hk k h' h, BitVec.getLsbD_setWidth, BitVec.getLsbD_of_ge m k h]
  simp

/-- The coincidence bit. -/
theorem Display.setCoincidence_stat_bit2 : (d.setCoincidence b).stat.getLsbD 2 = b := by
  have h : ∀ (st : Byte) (b : Bool), (if b then st ||| 0x04 else st &&& 0xFB).getLsbD 2 = b := by decide
  exact h d.stat b

/-- The coincidence evaluation keeps every other bit. -/
theorem Display.setCoincidence_stat_bit (k : Nat) (h : k ≠ 2) (h' : k < 8) :
    (d.setCoincidence b).stat.getLsbD k = d.stat.getLsbD k := by
  have hk : ∀ k, k < 8 → k ≠ 2 → (0x04 : Byte).getLsbD k = false ∧ (0xFB : Byte).getLsbD k = true := by decide
  cases b
  · show (d.stat &&& 0xFB).getLsbD k = d.stat.getLsbD k
    rw [BitVec.getLsbD_and, (hk k h' h).2, Bool.and_true]
  · show (d.stat ||| 0x04).getLsbD k = d.stat.getLsbD k
    rw [BitVec.getLsbD_or, (hk k h' h).1, Bool.or_false]

theorem Display.setMode_stat_high (h : d.stat &&& 0x80 = 0) : (d.setMode m).stat &&& 0x80 = 0 := by
  have key : ∀ (st : Byte) (m : BitVec 2), st &&& 0x80 = 0 → ((st &&& 0xFC) ||| m.setWidth 8) &&& 0x80 = 0 := by decide
  exact key d.stat m h

theorem Display.setCoincidence_stat_high (h : d.stat &&& 0x80 = 0) : (d.setCoincidence b).stat &&& 0x80 = 0 := by
  have key : ∀ (st : Byte) (b : Bool), st &&& 0x80 = 0 → (if b then st ||| 0x04 else st &&& 0xFB) &&& 0x80 = 0 := by
    decide
  exact key d.stat b h

end

/-- A mode is one of four. -/
theorem mode_cases (m : BitVec 2) : m = 0 ∨ m = 1 ∨ m = 2 ∨ m = 3 := by
  revert m
  decide

/-! The transitions (rules R312 to R315), field by field. -/

section
variable (s : State) (n : Nat)

@[simp] theorem State.statRequest_display : (s.statRequest n).display = s.display := by
  obtain ⟨i, h, e⟩ := s.statRequest_eq n
  rw [e]

@[simp] theorem State.statRequest_events : (s.statRequest n).events = s.events := by
  obtain ⟨i, h, e⟩ := s.statRequest_eq n
  rw [e]

theorem State.statRequest_intFlag :
    (s.statRequest n).intFlag = s.intFlag ||| (if s.display.stat.getLsbD n then 0x02 else 0x00) := by
  unfold State.statRequest
  cases s.display.stat.getLsbD n
  · simp
  · rfl

theorem State.statRequest_halted : (s.statRequest n).halted = (s.halted && !s.display.stat.getLsbD n) := by
  unfold State.statRequest
  cases s.display.stat.getLsbD n
  · simp
  · simp

theorem State.endOamScan_display :
    s.endOamScan.display = { s.display with modeClock := s.display.modeClock - 80 }.setMode 3 := rfl

theorem State.endVramScan_display :
    s.endVramScan.display = { s.display with modeClock := s.display.modeClock - 172 }.setMode 0 := by
  unfold State.endVramScan
  rw [State.statRequest_display]
  rfl

theorem State.endHBlank_display :
    s.endHBlank.display =
      { s.display with modeClock := s.display.modeClock - 204, ly := s.display.ly + 1 }.setMode
        (if s.display.ly + 1 = 144 then 1 else 2) := by
  unfold State.endHBlank State.consumeModeClock State.setLY
  generalize s.display.modeClock - 204 = k
  dsimp only
  by_cases h : s.display.ly + 1 = 144
  · rw [if_pos h, if_pos h, State.statRequest_display]
    rfl
  · rw [if_neg h, if_neg h, State.statRequest_display]
    rfl

theorem State.endVBlankLine_display :
    s.endVBlankLine.display =
      if s.display.ly + 1 = 154 then { s.display with modeClock := s.display.modeClock - 456, ly := 0 }.setMode 2
      else { s.display with modeClock := s.display.modeClock - 456, ly := s.display.ly + 1 } := by
  unfold State.endVBlankLine State.consumeModeClock State.setLY
  generalize s.display.modeClock - 456 = k
  dsimp only
  by_cases h : s.display.ly + 1 = 154
  · rw [if_pos h, if_pos h, State.statRequest_display]
    rfl
  · rw [if_neg h, if_neg h]

theorem State.coincidence_display :
    s.coincidence.display = s.display.setCoincidence (decide (s.display.ly = s.display.lyc)) := by
  unfold State.coincidence
  by_cases h : s.display.ly = s.display.lyc
  · rw [if_pos h, State.statRequest_display, decide_eq_true h]
  · rw [if_neg h, decide_eq_false h]

theorem State.coincidence_events : s.coincidence.events = s.events := by
  obtain ⟨st, i, h, e⟩ := s.coincidence_eq
  rw [e]

/-- One evaluation of a mode, for each of the four (rule R310). -/
theorem State.modeEval_of_mode (c : Nat) :
    (s.display.mode = 0 → s.modeEval c =
      let s' : State := { s with display := { s.display with modeClock := s.display.modeClock + c } }
      if 204 ≤ s.display.modeClock + c then s'.endHBlank else s') ∧
    (s.display.mode = 1 → s.modeEval c =
      let s' : State := { s with display := { s.display with modeClock := s.display.modeClock + c } }
      if 456 ≤ s.display.modeClock + c then s'.endVBlankLine else s') ∧
    (s.display.mode = 2 → s.modeEval c =
      let s' : State := { s with display := { s.display with modeClock := s.display.modeClock + c } }
      if 80 ≤ s.display.modeClock + c then s'.endOamScan else s') ∧
    (s.display.mode = 3 → s.modeEval c =
      let s' : State := { s with display := { s.display with modeClock := s.display.modeClock + c } }
      if 172 ≤ s.display.modeClock + c then s'.endVramScan else s') := by
  have e : ({ s.display with modeClock := s.display.modeClock + c } : Display).mode = s.display.mode := rfl
  unfold State.modeEval
  refine ⟨fun h => ?_, fun h => ?_, fun h => ?_, fun h => ?_⟩ <;> dsimp only <;> rw [e, h] <;> rfl

/-- The transfer phase leaves the timing state machine, IF, `halted` and the events alone. -/
theorem State.dmaPhase_leaves (c : Nat) :
    (s.dmaPhase c).display.stat = s.display.stat ∧ (s.dmaPhase c).display.ly = s.display.ly ∧
      (s.dmaPhase c).display.lyc = s.display.lyc ∧ (s.dmaPhase c).display.modeClock = s.display.modeClock ∧
      (s.dmaPhase c).display.lcdc = s.display.lcdc ∧ (s.dmaPhase c).params = s.params ∧
      (s.dmaPhase c).intFlag = s.intFlag ∧ (s.dmaPhase c).halted = s.halted ∧ (s.dmaPhase c).events = s.events := by
  obtain ⟨oam, p, b, d, e⟩ := s.dmaPhase_eq c
  rw [e]
  exact ⟨rfl, rfl, rfl, rfl, rfl, rfl, rfl, rfl, rfl⟩

/-- With a transfer pending the phase is the transfer; without one it counts the budget down. -/
theorem State.dmaPhase_display (c : Nat) :
    (s.dmaPhase c).display =
      if s.display.dmaPending then
        { (State.dmaBytes s.display.dma 160 s).display with dmaPending := false, dmaBudget := s.params.dmaBudgetCycles }
      else { s.display with dmaBudget := s.display.dmaBudget - c } := by
  have hp : (State.dmaBytes s.display.dma 160 s).params = s.params := by
    obtain ⟨o, d, e⟩ := State.dmaBytes_eq s.display.dma 160 s
    rw [e]
  unfold State.dmaPhase
  cases s.display.dmaPending
  · rfl
  · simp only [if_true, hp]

/-- While the timing state machine runs, the update is the transfer phase, one mode evaluation and the coincidence. -/
theorem State.displayUpdate_of_runs (c : Nat) (h : s.displayRuns) :
    s.displayUpdate c = ((s.dmaPhase c).modeEval c).coincidence := by
  obtain ⟨-, -, -, -, hl, hp, -⟩ := s.dmaPhase_leaves c
  unfold State.displayUpdate
  refine if_neg ?_
  rw [hl, hp]
  rintro ⟨h1, h2⟩
  rcases h with h | h
  · rw [h] at h1
    exact Bool.noConfusion h1
  · rw [h] at h2
    exact Bool.noConfusion h2

/-- While it does not, the display is held (rule R318). -/
theorem State.displayUpdate_of_held (c : Nat) (h : ¬ s.displayRuns) : s.displayUpdate c = (s.dmaPhase c).displayHeld := by
  obtain ⟨-, -, -, -, hl, hp, -⟩ := s.dmaPhase_leaves c
  unfold State.displayUpdate
  refine if_pos ?_
  rw [hl, hp]
  unfold State.displayRuns at h
  constructor
  · cases hg : s.params.lcdDisableGatesFsm
    · exact absurd (.inl hg) h
    · rfl
  · cases hg : s.display.lcdc.getLsbD 7
    · rfl
    · exact absurd (.inr hg) h

/-- The timing state machine leaves the transfer's fields alone: they are as the transfer phase left them. -/
theorem State.displayUpdate_transfer (c : Nat) :
    (s.displayUpdate c).display.oam = (s.dmaPhase c).display.oam ∧
      (s.displayUpdate c).display.dmaPending = (s.dmaPhase c).display.dmaPending ∧
      (s.displayUpdate c).display.dmaBudget = (s.dmaPhase c).display.dmaBudget ∧
      (s.displayUpdate c).draws = (s.dmaPhase c).draws := by
  by_cases h : s.displayRuns
  · rw [s.displayUpdate_of_runs c h]
    have hf := (s.dmaPhase c).modeEval_frame c
    generalize s.dmaPhase c = u at hf ⊢
    generalize u.modeEval c = w at hf ⊢
    obtain ⟨st, i, hl, e⟩ := w.coincidence_eq
    rw [e, hf]
    exact ⟨rfl, rfl, rfl, rfl⟩
  · rw [s.displayUpdate_of_held c h]
    exact ⟨rfl, rfl, rfl, rfl⟩

/-- Everything outside the display, IF, `halted`, the events and the draw counter, and every display register a program writes,
is as before. -/
theorem State.displayUpdate_leaves (c : Nat) :
    (s.displayUpdate c).regs = s.regs ∧ (s.displayUpdate c).ime = s.ime ∧
      (s.displayUpdate c).bootActive = s.bootActive ∧ (s.displayUpdate c).fault = s.fault ∧
      (s.displayUpdate c).cycles = s.cycles ∧ (s.displayUpdate c).totalCycles = s.totalCycles ∧
      (s.displayUpdate c).intEnable = s.intEnable ∧ (s.displayUpdate c).wram = s.wram ∧
      (s.displayUpdate c).hram = s.hram ∧ (s.displayUpdate c).timer = s.timer ∧ (s.displayUpdate c).joypad = s.joypad ∧
      (s.displayUpdate c).mbc = s.mbc ∧ (s.displayUpdate c).cram = s.cram ∧ (s.displayUpdate c).params = s.params ∧
      (s.displayUpdate c).hostInputs = s.hostInputs ∧ (s.displayUpdate c).display.vram = s.display.vram ∧
      (s.displayUpdate c).display.lyc = s.display.lyc ∧ (s.displayUpdate c).display.lcdc = s.display.lcdc ∧
      (s.displayUpdate c).display.dma = s.display.dma := by
  obtain ⟨o, p, b, st, l, cl, i, h, ev, d, e⟩ := s.displayUpdate_eq c
  rw [e]
  and_intros <;> rfl

/-- STAT's source enables and top bit are as before: an update writes the mode and the coincidence bit only (rule R302). -/
theorem State.displayUpdate_stat (c : Nat) : (s.displayUpdate c).display.stat &&& 0xF8 = s.display.stat &&& 0xF8 := by
  have mode : ∀ (st : Byte) (m : BitVec 2), ((st &&& 0xFC) ||| m.setWidth 8) &&& 0xF8 = st &&& 0xF8 := by decide
  have coin : ∀ (st : Byte) (b : Bool), (if b then st ||| 0x04 else st &&& 0xFB) &&& 0xF8 = st &&& 0xF8 := by decide
  obtain ⟨hs, -⟩ := s.dmaPhase_leaves c
  by_cases h : s.displayRuns
  · rw [s.displayUpdate_of_runs c h, State.coincidence_display, ← hs]
    refine (coin _ _).trans ?_
    generalize s.dmaPhase c = u
    obtain ⟨e0, e1, e2, e3⟩ := u.modeEval_of_mode c
    rcases mode_cases u.display.mode with hm | hm | hm | hm
    · rw [e0 hm]
      dsimp only
      split
      · rw [State.endHBlank_display]
        exact mode _ _
      · rfl
    · rw [e1 hm]
      dsimp only
      split
      · rw [State.endVBlankLine_display]
        split
        · exact mode _ _
        · rfl
      · rfl
    · rw [e2 hm]
      dsimp only
      split
      · exact mode _ _
      · rfl
    · rw [e3 hm]
      dsimp only
      split
      · rw [State.endVramScan_display]
        exact mode _ _
      · rfl
  · rw [s.displayUpdate_of_held c h, ← hs]
    exact mode _ _

/-- The counter of free values after the transfer phase: that of the 160 reads, if there is a transfer. -/
theorem State.dmaPhase_draws (c : Nat) :
    (s.dmaPhase c).draws = if s.display.dmaPending then (State.dmaBytes s.display.dma 160 s).draws else s.draws := by
  unfold State.dmaPhase
  cases s.display.dmaPending
  · rfl
  · simp only [if_true]

/-- A copy that reads no byte of the audio range takes no free value. -/
theorem State.dmaBytes_draws (page : Byte) :
    ∀ n, (∀ i, i < n → region (BitVec.ofNat 16 (page.toNat * 0x100 + i)) ≠ .audio) →
      (State.dmaBytes page n s).draws = s.draws := by
  intro n
  induction n with
  | zero => exact fun _ => rfl
  | succ n ih =>
    intro h
    simp only [State.dmaBytes, State.dmaByte]
    rw [State.afterRead_of_ne _ (h n (by omega))]
    exact ih fun i hi => h i (by omega)

/-- OAM after the transfer phase. -/
theorem State.dmaPhase_oam (c : Nat) :
    (s.dmaPhase c).display.oam =
      if s.display.dmaPending then (State.dmaBytes s.display.dma 160 s).display.oam else s.display.oam := by
  rw [s.dmaPhase_display c]
  cases s.display.dmaPending
  · rfl
  · simp only [if_true]

/-- A read through the raw bus does not depend on OAM or on the counter of free values, but for those regions. -/
theorem State.busRead_oam (o : Memory) (d : Nat) {a : Word} (h : region a ≠ .audio)
    (ho : ∀ k, region a = .oam k → o.read k = s.display.oam.read k) :
    State.busRead { s with display := { s.display with oam := o }, draws := d } a = s.busRead a := by
  unfold State.busRead
  cases hr : region a with
  | audio => exact absurd hr h
  | oam k => exact ho k hr
  | display r => cases r <;> rfl
  | _ => rfl

/-- One byte of the transfer: a read and a write of OAM. -/
theorem State.dmaByte_eq (page : Byte) (i : Nat) :
    ∃ d, s.dmaByte page i =
      { s with
        display := { s.display with oam := s.display.oam.write i (s.busRead (BitVec.ofNat 16 (page.toNat * 0x100 + i))) }
        draws := d } := by
  obtain ⟨d, hd⟩ := s.afterRead_eq (BitVec.ofNat 16 (page.toNat * 0x100 + i))
  refine ⟨d, ?_⟩
  unfold State.dmaByte
  dsimp only
  rw [hd]

/-- The transfer changes OAM only below the bytes copied, and each byte copied is the one its source held (rule R320). -/
theorem State.dmaBytes_copy (page : Byte) : ∀ n, n ≤ 160 →
    (∃ o d, State.dmaBytes page n s = { s with display := { s.display with oam := o }, draws := d } ∧
      ∀ j, n ≤ j → o.read j = s.display.oam.read j) ∧
    ∀ i, i < n → region (BitVec.ofNat 16 (page.toNat * 0x100 + i)) ≠ .audio →
      (State.dmaBytes page n s).display.oam.read i = s.busRead (BitVec.ofNat 16 (page.toNat * 0x100 + i)) := by
  intro n
  induction n with
  | zero => exact fun _ => ⟨⟨s.display.oam, s.draws, rfl, fun _ _ => rfl⟩, fun i hi => absurd hi (Nat.not_lt_zero i)⟩
  | succ n ih =>
    intro hn
    obtain ⟨⟨o, d, e, ho⟩, hr⟩ := ih (by omega)
    obtain ⟨k, hk⟩ := (State.dmaBytes page n s).dmaByte_eq page n
    have hs : State.dmaBytes page (n + 1) s = (State.dmaBytes page n s).dmaByte page n := rfl
    rw [hs, hk]
    refine ⟨⟨_, k, by rw [e], ?_⟩, ?_⟩
    · intro j hj
      rw [Memory.read_write_ne _ (by omega), ho j (by omega)]
    · intro i hi ha
      show ((State.dmaBytes page n s).display.oam.write n _).read i = _
      by_cases h : i = n
      · subst h
        rw [Memory.read_write_same, e]
        refine State.busRead_oam s o d ha fun k hk => ho k ?_
        have hp := page.isLt
        have hw : (BitVec.ofNat 16 (page.toNat * 0x100 + i)).toNat = page.toNat * 0x100 + i := by
          rw [BitVec.toNat_ofNat]
          omega
        obtain ⟨h1, h2⟩ := region_oam_range hk
        rw [region_oam h1 h2] at hk
        have := Region.oam.inj hk
        omega
      · rw [Memory.read_write_ne _ h]
        exact hr i (by omega) ha

end

end Sys2Proof.Machine
end

