-- ==== Sys2Proof/Laws/Step.lean ====
section
/-! SUPPORT. The cases of a step, and that a property kept by each of its parts is kept by the step. -/

namespace Sys2Proof.Machine

/-- How a step comes to answer a next state (rule R6): a halted no-op, an instruction that records the fatal fault, or an
instruction followed by the updates. -/
theorem step_cases {s t : State} (h : step s = .next t) :
    s.fault = none ∧
      (s.beginStep.halted = true ∧ t = (s.beginStep.addCycles 4).finishStep ∨
        s.beginStep.halted = false ∧ ∃ u, exec s.beginStep.fetchInstr.1 s.beginStep.fetchInstr.2 = .next u ∧
          (u.fault ≠ none ∧ t = u ∨ u.fault = none ∧ t = u.finishStep)) := by
  unfold step at h
  split at h
  · cases h
  · rename_i hf
    refine ⟨hf, ?_⟩
    unfold stepBody at h
    split at h
    · rename_i hh
      cases h
      exact .inl ⟨hh, rfl⟩
    · rename_i hh
      refine .inr ⟨by simpa using hh, ?_⟩
      split at h
      · rename_i u hu
        refine ⟨u, hu, ?_⟩
        split at h
        · rename_i hs
          cases h
          exact .inl ⟨fun hn => by simp [hn] at hs, rfl⟩
        · rename_i hs
          cases h
          exact .inr ⟨by simpa using hs, rfl⟩
      · cases h
      · cases h

/-- Fetching moves PC and takes free values only. -/
theorem State.fetchInstr_eq (s : State) :
    ∃ pc draws, s.fetchInstr.2 = { s with regs := { s.regs with pc := pc }, draws := draws } := by
  have one : ∀ u : State, ∃ pc draws, u.fetch8.2 = { u with regs := { u.regs with pc := pc }, draws := draws } := by
    intro u
    obtain ⟨n, hn⟩ := u.afterRead_eq u.regs.pc
    exact ⟨u.regs.pc + 1, n, by simp only [State.fetch8, State.setPC, hn]⟩
  obtain ⟨pc0, d0, h0⟩ := one s
  obtain ⟨pc1, d1, h1⟩ := one s.fetch8.2
  obtain ⟨pc2, d2, h2⟩ := one s.fetch8.2.fetch8.2
  unfold State.fetchInstr
  dsimp only
  split
  · exact ⟨pc0, d0, h0⟩
  · exact ⟨pc1, d1, by rw [h1, h0]⟩
  · exact ⟨pc2, d2, by simp only [State.fetch16]; rw [h2, h1, h0]⟩
  · exact ⟨pc1, d1, by rw [h1, h0]⟩

/-- A property kept by every part of a step. -/
structure StepKeeps (P : State → Prop) : Prop extends ExecKeeps P where
  host : ∀ s : State, P s → P s.hostTurn
  intFlag : ∀ (s : State) (b : Byte), P s → P { s with intFlag := b }
  display : ∀ (s : State) (c : Nat), P s → P (s.displayUpdate c)
  timer : ∀ (s : State) (c : Nat), P s → P (s.timerUpdate c)
  total : ∀ (s : State) (c n : Nat), P s → P { s.audioUpdate c with totalCycles := n, cycles := 0 }

namespace StepKeeps

variable {P : State → Prop} (k : StepKeeps P) {s : State}
include k

theorem interruptDispatch (h : P s) : P s.interruptDispatch := by
  unfold State.interruptDispatch
  split
  · rw [State.enterInterrupt_eq]
    exact k.intFlag _ _ (k.cpu _ _ _ _ _ _ (k.bus _ _ _ (k.bus _ _ _ h)))
  · exact h

theorem beginStep (h : P s) : P s.beginStep :=
  k.interruptDispatch (k.cpu s.hostTurn _ _ _ _ _ (k.host s h))

theorem finishStep (h : P s) : P s.finishStep := k.total _ _ _ (k.timer _ _ (k.display _ _ h))

/-- Every step keeps it. -/
theorem step {t : State} (h : P s) (ht : step s = .next t) : P t := by
  have hb := k.beginStep h
  obtain ⟨-, ⟨-, rfl⟩ | ⟨-, u, hu, ⟨-, rfl⟩ | ⟨-, rfl⟩⟩⟩ := step_cases ht
  · exact k.finishStep (k.toRunKeeps.addCycles 4 hb)
  all_goals
    obtain ⟨pc, draws, hf⟩ := s.beginStep.fetchInstr_eq
    have hfi : P s.beginStep.fetchInstr.2 := by
      rw [hf]
      exact k.cpu _ _ _ _ _ _ hb
    have hx := k.toExecKeeps.exec _ hfi hu
  · exact hx
  · exact k.finishStep hx

end StepKeeps

end Sys2Proof.Machine
end

