-- ==== Sys2Proof/Tests/Slice0.lean ====
section
/-! SUPPORT. The model's own tests and witnesses: ill-formed terms that the checks refuse, the two opcode maps of the spec row by row,
vectors of spec/95_test_vectors.md (V and S numbers, and the examples of the rules named), and for each statement with hypotheses
a state that meets them. -/

namespace Sys2Proof.Tests

open Sys2Proof.Machine

/-! Well-formedness: each check refuses an ill-formed term. -/

theorem test_romSize_too_small : Params.wellFormed { Params.default with romSize := 0x4000 } = false := by decide

theorem test_romSize_no_multiple : Params.wellFormed { Params.default with romSize := 0x8001 } = false := by decide

theorem test_firmware_too_long : Params.wellFormed { Params.default with bootRom := ⟨[(0x100, 0x31)]⟩ } = false := by decide

theorem test_image_longer_than_its_size : Params.wellFormed { Params.default with rom := ⟨[(0x8000, 0x31)]⟩ } = false := by
  decide

theorem test_dispatch_cost_too_large : Params.wellFormed { Params.default with intDispatchCycles := 56 } = false := by decide

theorem test_memory_not_rising : Memory.wf 0x10 ⟨[(2, 0x01), (1, 0x01)]⟩ = false := by decide

theorem test_memory_repeats : Memory.wf 0x10 ⟨[(1, 0x01), (1, 0x02)]⟩ = false := by decide

theorem test_memory_lists_fill : Memory.wf 0x10 ⟨[(1, 0x00)]⟩ = false := by decide

theorem test_memory_outside : Memory.wf 0x10 ⟨[(0x10, 0x01)]⟩ = false := by decide

theorem test_image_wrong_length :
    InitImages.wellFormed Params.default { InitImages.default with hram := ⟨[(0x7F, 0x01)]⟩ } = false := by decide

theorem test_defaults_wellFormed :
    Params.wellFormed { Params.default with intDispatchCycles := 55, bootRom := ⟨[(0xFF, 0x50)]⟩ } = true := by decide

/-! Decoding, from the grids of rules R112 and R113, with 0x34 0x12 after the opcode: the instruction and how many bytes are
left over. -/

/-- What the decoder reads, and how many bytes it leaves. -/
def decoded (bytes : List Byte) : Option (Instr × Nat) :=
  match decode bytes with
  | .ok (i, rest) => some (i, rest.length)
  | .error _ => none

theorem test_decode_refuses :
    decode [] = .error .noOpcode ∧ decode [0x06] = .error .noImm8 ∧ decode [0xC3, 0x00] = .error .noImm16 ∧
      decode [0xCB] = .error .noExtendedOpcode := by
  decide

theorem test_decode_primary_0x :
    [0x00, 0x01, 0x02, 0x03, 0x04, 0x05, 0x06, 0x07, 0x08, 0x09, 0x0A, 0x0B, 0x0C, 0x0D, 0x0E, 0x0F].map
        (fun op => decoded [op, 0x34, 0x12]) =
      [some (.nop, 2), some (.ld_bc_n16 0x1234, 0), some (.ld_atBC_a, 2), some (.inc_bc, 2), some (.inc_b, 2),
       some (.dec_b, 2), some (.ld_b_n8 0x34, 1), some (.rlca, 2), some (.ld_atN16_sp 0x1234, 0),
       some (.add_hl_bc, 2), some (.ld_a_atBC, 2), some (.dec_bc, 2), some (.inc_c, 2), some (.dec_c, 2),
       some (.ld_c_n8 0x34, 1), some (.rrca, 2)] := by
  decide

theorem test_decode_primary_1x :
    [0x10, 0x11, 0x12, 0x13, 0x14, 0x15, 0x16, 0x17, 0x18, 0x19, 0x1A, 0x1B, 0x1C, 0x1D, 0x1E, 0x1F].map
        (fun op => decoded [op, 0x34, 0x12]) =
      [some (.stop, 2), some (.ld_de_n16 0x1234, 0), some (.ld_atDE_a, 2), some (.inc_de, 2), some (.inc_d, 2),
       some (.dec_d, 2), some (.ld_d_n8 0x34, 1), some (.rla, 2), some (.jr_e8 0x34, 1), some (.add_hl_de, 2),
       some (.ld_a_atDE, 2), some (.dec_de, 2), some (.inc_e, 2), some (.dec_e, 2), some (.ld_e_n8 0x34, 1),
       some (.rra, 2)] := by
  decide

theorem test_decode_primary_2x :
    [0x20, 0x21, 0x22, 0x23, 0x24, 0x25, 0x26, 0x27, 0x28, 0x29, 0x2A, 0x2B, 0x2C, 0x2D, 0x2E, 0x2F].map
        (fun op => decoded [op, 0x34, 0x12]) =
      [some (.jr_nz_e8 0x34, 1), some (.ld_hl_n16 0x1234, 0), some (.ld_atHLinc_a, 2), some (.inc_hl, 2),
       some (.inc_h, 2), some (.dec_h, 2), some (.ld_h_n8 0x34, 1), some (.daa, 2), some (.jr_z_e8 0x34, 1),
       some (.add_hl_hl, 2), some (.ld_a_atHLinc, 2), some (.dec_hl, 2), some (.inc_l, 2), some (.dec_l, 2),
       some (.ld_l_n8 0x34, 1), some (.cpl, 2)] := by
  decide

theorem test_decode_primary_3x :
    [0x30, 0x31, 0x32, 0x33, 0x34, 0x35, 0x36, 0x37, 0x38, 0x39, 0x3A, 0x3B, 0x3C, 0x3D, 0x3E, 0x3F].map
        (fun op => decoded [op, 0x34, 0x12]) =
      [some (.jr_nc_e8 0x34, 1), some (.ld_sp_n16 0x1234, 0), some (.ld_atHLdec_a, 2), some (.inc_sp, 2),
       some (.inc_atHL, 2), some (.dec_atHL, 2), some (.ld_atHL_n8 0x34, 1), some (.scf, 2), some (.jr_c_e8 0x34, 1),
       some (.add_hl_sp, 2), some (.ld_a_atHLdec, 2), some (.dec_sp, 2), some (.inc_a, 2), some (.dec_a, 2),
       some (.ld_a_n8 0x34, 1), some (.ccf, 2)] := by
  decide

theorem test_decode_primary_4x :
    [0x40, 0x41, 0x42, 0x43, 0x44, 0x45, 0x46, 0x47, 0x48, 0x49, 0x4A, 0x4B, 0x4C, 0x4D, 0x4E, 0x4F].map
        (fun op => decoded [op, 0x34, 0x12]) =
      [some (.ld_b_b, 2), some (.ld_b_c, 2), some (.ld_b_d, 2), some (.ld_b_e, 2), some (.ld_b_h, 2),
       some (.ld_b_l, 2), some (.ld_b_atHL, 2), some (.ld_b_a, 2), some (.ld_c_b, 2), some (.ld_c_c, 2),
       some (.ld_c_d, 2), some (.ld_c_e, 2), some (.ld_c_h, 2), some (.ld_c_l, 2), some (.ld_c_atHL, 2),
       some (.ld_c_a, 2)] := by
  decide

theorem test_decode_primary_5x :
    [0x50, 0x51, 0x52, 0x53, 0x54, 0x55, 0x56, 0x57, 0x58, 0x59, 0x5A, 0x5B, 0x5C, 0x5D, 0x5E, 0x5F].map
        (fun op => decoded [op, 0x34, 0x12]) =
      [some (.ld_d_b, 2), some (.ld_d_c, 2), some (.ld_d_d, 2), some (.ld_d_e, 2), some (.ld_d_h, 2),
       some (.ld_d_l, 2), some (.ld_d_atHL, 2), some (.ld_d_a, 2), some (.ld_e_b, 2), some (.ld_e_c, 2),
       some (.ld_e_d, 2), some (.ld_e_e, 2), some (.ld_e_h, 2), some (.ld_e_l, 2), some (.ld_e_atHL, 2),
       some (.ld_e_a, 2)] := by
  decide

theorem test_decode_primary_6x :
    [0x60, 0x61, 0x62, 0x63, 0x64, 0x65, 0x66, 0x67, 0x68, 0x69, 0x6A, 0x6B, 0x6C, 0x6D, 0x6E, 0x6F].map
        (fun op => decoded [op, 0x34, 0x12]) =
      [some (.ld_h_b, 2), some (.ld_h_c, 2), some (.ld_h_d, 2), some (.ld_h_e, 2), some (.ld_h_h, 2),
       some (.ld_h_l, 2), some (.ld_h_atHL, 2), some (.ld_h_a, 2), some (.ld_l_b, 2), some (.ld_l_c, 2),
       some (.ld_l_d, 2), some (.ld_l_e, 2), some (.ld_l_h, 2), some (.ld_l_l, 2), some (.ld_l_atHL, 2),
       some (.ld_l_a, 2)] := by
  decide

theorem test_decode_primary_7x :
    [0x70, 0x71, 0x72, 0x73, 0x74, 0x75, 0x76, 0x77, 0x78, 0x79, 0x7A, 0x7B, 0x7C, 0x7D, 0x7E, 0x7F].map
        (fun op => decoded [op, 0x34, 0x12]) =
      [some (.ld_atHL_b, 2), some (.ld_atHL_c, 2), some (.ld_atHL_d, 2), some (.ld_atHL_e, 2), some (.ld_atHL_h, 2),
       some (.ld_atHL_l, 2), some (.halt, 2), some (.ld_atHL_a, 2), some (.ld_a_b, 2), some (.ld_a_c, 2),
       some (.ld_a_d, 2), some (.ld_a_e, 2), some (.ld_a_h, 2), some (.ld_a_l, 2), some (.ld_a_atHL, 2),
       some (.ld_a_a, 2)] := by
  decide

theorem test_decode_primary_8x :
    [0x80, 0x81, 0x82, 0x83, 0x84, 0x85, 0x86, 0x87, 0x88, 0x89, 0x8A, 0x8B, 0x8C, 0x8D, 0x8E, 0x8F].map
        (fun op => decoded [op, 0x34, 0x12]) =
      [some (.add_a_b, 2), some (.add_a_c, 2), some (.add_a_d, 2), some (.add_a_e, 2), some (.add_a_h, 2),
       some (.add_a_l, 2), some (.add_a_atHL, 2), some (.add_a_a, 2), some (.adc_a_b, 2), some (.adc_a_c, 2),
       some (.adc_a_d, 2), some (.adc_a_e, 2), some (.adc_a_h, 2), some (.adc_a_l, 2), some (.adc_a_atHL, 2),
       some (.adc_a_a, 2)] := by
  decide

theorem test_decode_primary_9x :
    [0x90, 0x91, 0x92, 0x93, 0x94, 0x95, 0x96, 0x97, 0x98, 0x99, 0x9A, 0x9B, 0x9C, 0x9D, 0x9E, 0x9F].map
        (fun op => decoded [op, 0x34, 0x12]) =
      [some (.sub_b, 2), some (.sub_c, 2), some (.sub_d, 2), some (.sub_e, 2), some (.sub_h, 2), some (.sub_l, 2),
       some (.sub_atHL, 2), some (.sub_a, 2), some (.sbc_a_b, 2), some (.sbc_a_c, 2), some (.sbc_a_d, 2),
       some (.sbc_a_e, 2), some (.sbc_a_h, 2), some (.sbc_a_l, 2), some (.sbc_a_atHL, 2), some (.sbc_a_a, 2)] := by
  decide

theorem test_decode_primary_Ax :
    [0xA0, 0xA1, 0xA2, 0xA3, 0xA4, 0xA5, 0xA6, 0xA7, 0xA8, 0xA9, 0xAA, 0xAB, 0xAC, 0xAD, 0xAE, 0xAF].map
        (fun op => decoded [op, 0x34, 0x12]) =
      [some (.and_b, 2), some (.and_c, 2), some (.and_d, 2), some (.and_e, 2), some (.and_h, 2), some (.and_l, 2),
       some (.and_atHL, 2), some (.and_a, 2), some (.xor_b, 2), some (.xor_c, 2), some (.xor_d, 2), some (.xor_e, 2),
       some (.xor_h, 2), some (.xor_l, 2), some (.xor_atHL, 2), some (.xor_a, 2)] := by
  decide

theorem test_decode_primary_Bx :
    [0xB0, 0xB1, 0xB2, 0xB3, 0xB4, 0xB5, 0xB6, 0xB7, 0xB8, 0xB9, 0xBA, 0xBB, 0xBC, 0xBD, 0xBE, 0xBF].map
        (fun op => decoded [op, 0x34, 0x12]) =
      [some (.or_b, 2), some (.or_c, 2), some (.or_d, 2), some (.or_e, 2), some (.or_h, 2), some (.or_l, 2),
       some (.or_atHL, 2), some (.or_a, 2), some (.cp_b, 2), some (.cp_c, 2), some (.cp_d, 2), some (.cp_e, 2),
       some (.cp_h, 2), some (.cp_l, 2), some (.cp_atHL, 2), some (.cp_a, 2)] := by
  decide

theorem test_decode_primary_Cx :
    [0xC0, 0xC1, 0xC2, 0xC3, 0xC4, 0xC5, 0xC6, 0xC7, 0xC8, 0xC9, 0xCA, 0xCC, 0xCD, 0xCE, 0xCF].map
        (fun op => decoded [op, 0x34, 0x12]) =
      [some (.ret_nz, 2), some (.pop_bc, 2), some (.jp_nz_n16 0x1234, 0), some (.jp_n16 0x1234, 0),
       some (.call_nz_n16 0x1234, 0), some (.push_bc, 2), some (.add_a_n8 0x34, 1), some (.rst_00, 2),
       some (.ret_z, 2), some (.ret, 2), some (.jp_z_n16 0x1234, 0), some (.call_z_n16 0x1234, 0),
       some (.call_n16 0x1234, 0), some (.adc_a_n8 0x34, 1), some (.rst_08, 2)] := by
  decide

theorem test_decode_primary_Dx :
    [0xD0, 0xD1, 0xD2, 0xD3, 0xD4, 0xD5, 0xD6, 0xD7, 0xD8, 0xD9, 0xDA, 0xDB, 0xDC, 0xDD, 0xDE, 0xDF].map
        (fun op => decoded [op, 0x34, 0x12]) =
      [some (.ret_nc, 2), some (.pop_de, 2), some (.jp_nc_n16 0x1234, 0), some (.illegal_d3, 2),
       some (.call_nc_n16 0x1234, 0), some (.push_de, 2), some (.sub_n8 0x34, 1), some (.rst_10, 2),
       some (.ret_c, 2), some (.reti, 2), some (.jp_c_n16 0x1234, 0), some (.illegal_db, 2),
       some (.call_c_n16 0x1234, 0), some (.illegal_dd, 2), some (.sbc_a_n8 0x34, 1), some (.rst_18, 2)] := by
  decide

theorem test_decode_primary_Ex :
    [0xE0, 0xE1, 0xE2, 0xE3, 0xE4, 0xE5, 0xE6, 0xE7, 0xE8, 0xE9, 0xEA, 0xEB, 0xEC, 0xED, 0xEE, 0xEF].map
        (fun op => decoded [op, 0x34, 0x12]) =
      [some (.ldh_atN8_a 0x34, 1), some (.pop_hl, 2), some (.ldh_atC_a, 2), some (.illegal_e3, 2),
       some (.illegal_e4, 2), some (.push_hl, 2), some (.and_n8 0x34, 1), some (.rst_20, 2),
       some (.add_sp_e8 0x34, 1), some (.jp_hl, 2), some (.ld_atN16_a 0x1234, 0), some (.illegal_eb, 2),
       some (.illegal_ec, 2), some (.illegal_ed, 2), some (.xor_n8 0x34, 1), some (.rst_28, 2)] := by
  decide

theorem test_decode_primary_Fx :
    [0xF0, 0xF1, 0xF2, 0xF3, 0xF4, 0xF5, 0xF6, 0xF7, 0xF8, 0xF9, 0xFA, 0xFB, 0xFC, 0xFD, 0xFE, 0xFF].map
        (fun op => decoded [op, 0x34, 0x12]) =
      [some (.ldh_a_atN8 0x34, 1), some (.pop_af, 2), some (.ldh_a_atC, 2), some (.di, 2), some (.illegal_f4, 2),
       some (.push_af, 2), some (.or_n8 0x34, 1), some (.rst_30, 2), some (.ld_hl_spE8 0x34, 1), some (.ld_sp_hl, 2),
       some (.ld_a_atN16 0x1234, 0), some (.ei, 2), some (.illegal_fc, 2), some (.illegal_fd, 2),
       some (.cp_n8 0x34, 1), some (.rst_38, 2)] := by
  decide

theorem test_decode_extended_0x :
    [0x00, 0x01, 0x02, 0x03, 0x04, 0x05, 0x06, 0x07, 0x08, 0x09, 0x0A, 0x0B, 0x0C, 0x0D, 0x0E, 0x0F].map
        (fun op => decoded [0xCB, op]) =
      [some (.rlc_b, 0), some (.rlc_c, 0), some (.rlc_d, 0), some (.rlc_e, 0), some (.rlc_h, 0), some (.rlc_l, 0),
       some (.rlc_atHL, 0), some (.rlc_a, 0), some (.rrc_b, 0), some (.rrc_c, 0), some (.rrc_d, 0), some (.rrc_e, 0),
       some (.rrc_h, 0), some (.rrc_l, 0), some (.rrc_atHL, 0), some (.rrc_a, 0)] := by
  decide

theorem test_decode_extended_1x :
    [0x10, 0x11, 0x12, 0x13, 0x14, 0x15, 0x16, 0x17, 0x18, 0x19, 0x1A, 0x1B, 0x1C, 0x1D, 0x1E, 0x1F].map
        (fun op => decoded [0xCB, op]) =
      [some (.rl_b, 0), some (.rl_c, 0), some (.rl_d, 0), some (.rl_e, 0), some (.rl_h, 0), some (.rl_l, 0),
       some (.rl_atHL, 0), some (.rl_a, 0), some (.rr_b, 0), some (.rr_c, 0), some (.rr_d, 0), some (.rr_e, 0),
       some (.rr_h, 0), some (.rr_l, 0), some (.rr_atHL, 0), some (.rr_a, 0)] := by
  decide

theorem test_decode_extended_2x :
    [0x20, 0x21, 0x22, 0x23, 0x24, 0x25, 0x26, 0x27, 0x28, 0x29, 0x2A, 0x2B, 0x2C, 0x2D, 0x2E, 0x2F].map
        (fun op => decoded [0xCB, op]) =
      [some (.sla_b, 0), some (.sla_c, 0), some (.sla_d, 0), some (.sla_e, 0), some (.sla_h, 0), some (.sla_l, 0),
       some (.sla_atHL, 0), some (.sla_a, 0), some (.sra_b, 0), some (.sra_c, 0), some (.sra_d, 0), some (.sra_e, 0),
       some (.sra_h, 0), some (.sra_l, 0), some (.sra_atHL, 0), some (.sra_a, 0)] := by
  decide

theorem test_decode_extended_3x :
    [0x30, 0x31, 0x32, 0x33, 0x34, 0x35, 0x36, 0x37, 0x38, 0x39, 0x3A, 0x3B, 0x3C, 0x3D, 0x3E, 0x3F].map
        (fun op => decoded [0xCB, op]) =
      [some (.swap_b, 0), some (.swap_c, 0), some (.swap_d, 0), some (.swap_e, 0), some (.swap_h, 0),
       some (.swap_l, 0), some (.swap_atHL, 0), some (.swap_a, 0), some (.srl_b, 0), some (.srl_c, 0),
       some (.srl_d, 0), some (.srl_e, 0), some (.srl_h, 0), some (.srl_l, 0), some (.srl_atHL, 0), some (.srl_a, 0)] := by
  decide

theorem test_decode_extended_4x :
    [0x40, 0x41, 0x42, 0x43, 0x44, 0x45, 0x46, 0x47, 0x48, 0x49, 0x4A, 0x4B, 0x4C, 0x4D, 0x4E, 0x4F].map
        (fun op => decoded [0xCB, op]) =
      [some (.bit_0_b, 0), some (.bit_0_c, 0), some (.bit_0_d, 0), some (.bit_0_e, 0), some (.bit_0_h, 0),
       some (.bit_0_l, 0), some (.bit_0_atHL, 0), some (.bit_0_a, 0), some (.bit_1_b, 0), some (.bit_1_c, 0),
       some (.bit_1_d, 0), some (.bit_1_e, 0), some (.bit_1_h, 0), some (.bit_1_l, 0), some (.bit_1_atHL, 0),
       some (.bit_1_a, 0)] := by
  decide

theorem test_decode_extended_5x :
    [0x50, 0x51, 0x52, 0x53, 0x54, 0x55, 0x56, 0x57, 0x58, 0x59, 0x5A, 0x5B, 0x5C, 0x5D, 0x5E, 0x5F].map
        (fun op => decoded [0xCB, op]) =
      [some (.bit_2_b, 0), some (.bit_2_c, 0), some (.bit_2_d, 0), some (.bit_2_e, 0), some (.bit_2_h, 0),
       some (.bit_2_l, 0), some (.bit_2_atHL, 0), some (.bit_2_a, 0), some (.bit_3_b, 0), some (.bit_3_c, 0),
       some (.bit_3_d, 0), some (.bit_3_e, 0), some (.bit_3_h, 0), some (.bit_3_l, 0), some (.bit_3_atHL, 0),
       some (.bit_3_a, 0)] := by
  decide

theorem test_decode_extended_6x :
    [0x60, 0x61, 0x62, 0x63, 0x64, 0x65, 0x66, 0x67, 0x68, 0x69, 0x6A, 0x6B, 0x6C, 0x6D, 0x6E, 0x6F].map
        (fun op => decoded [0xCB, op]) =
      [some (.bit_4_b, 0), some (.bit_4_c, 0), some (.bit_4_d, 0), some (.bit_4_e, 0), some (.bit_4_h, 0),
       some (.bit_4_l, 0), some (.bit_4_atHL, 0), some (.bit_4_a, 0), some (.bit_5_b, 0), some (.bit_5_c, 0),
       some (.bit_5_d, 0), some (.bit_5_e, 0), some (.bit_5_h, 0), some (.bit_5_l, 0), some (.bit_5_atHL, 0),
       some (.bit_5_a, 0)] := by
  decide

theorem test_decode_extended_7x :
    [0x70, 0x71, 0x72, 0x73, 0x74, 0x75, 0x76, 0x77, 0x78, 0x79, 0x7A, 0x7B, 0x7C, 0x7D, 0x7E, 0x7F].map
        (fun op => decoded [0xCB, op]) =
      [some (.bit_6_b, 0), some (.bit_6_c, 0), some (.bit_6_d, 0), some (.bit_6_e, 0), some (.bit_6_h, 0),
       some (.bit_6_l, 0), some (.bit_6_atHL, 0), some (.bit_6_a, 0), some (.bit_7_b, 0), some (.bit_7_c, 0),
       some (.bit_7_d, 0), some (.bit_7_e, 0), some (.bit_7_h, 0), some (.bit_7_l, 0), some (.bit_7_atHL, 0),
       some (.bit_7_a, 0)] := by
  decide

theorem test_decode_extended_8x :
    [0x80, 0x81, 0x82, 0x83, 0x84, 0x85, 0x86, 0x87, 0x88, 0x89, 0x8A, 0x8B, 0x8C, 0x8D, 0x8E, 0x8F].map
        (fun op => decoded [0xCB, op]) =
      [some (.res_0_b, 0), some (.res_0_c, 0), some (.res_0_d, 0), some (.res_0_e, 0), some (.res_0_h, 0),
       some (.res_0_l, 0), some (.res_0_atHL, 0), some (.res_0_a, 0), some (.res_1_b, 0), some (.res_1_c, 0),
       some (.res_1_d, 0), some (.res_1_e, 0), some (.res_1_h, 0), some (.res_1_l, 0), some (.res_1_atHL, 0),
       some (.res_1_a, 0)] := by
  decide

theorem test_decode_extended_9x :
    [0x90, 0x91, 0x92, 0x93, 0x94, 0x95, 0x96, 0x97, 0x98, 0x99, 0x9A, 0x9B, 0x9C, 0x9D, 0x9E, 0x9F].map
        (fun op => decoded [0xCB, op]) =
      [some (.res_2_b, 0), some (.res_2_c, 0), some (.res_2_d, 0), some (.res_2_e, 0), some (.res_2_h, 0),
       some (.res_2_l, 0), some (.res_2_atHL, 0), some (.res_2_a, 0), some (.res_3_b, 0), some (.res_3_c, 0),
       some (.res_3_d, 0), some (.res_3_e, 0), some (.res_3_h, 0), some (.res_3_l, 0), some (.res_3_atHL, 0),
       some (.res_3_a, 0)] := by
  decide

theorem test_decode_extended_Ax :
    [0xA0, 0xA1, 0xA2, 0xA3, 0xA4, 0xA5, 0xA6, 0xA7, 0xA8, 0xA9, 0xAA, 0xAB, 0xAC, 0xAD, 0xAE, 0xAF].map
        (fun op => decoded [0xCB, op]) =
      [some (.res_4_b, 0), some (.res_4_c, 0), some (.res_4_d, 0), some (.res_4_e, 0), some (.res_4_h, 0),
       some (.res_4_l, 0), some (.res_4_atHL, 0), some (.res_4_a, 0), some (.res_5_b, 0), some (.res_5_c, 0),
       some (.res_5_d, 0), some (.res_5_e, 0), some (.res_5_h, 0), some (.res_5_l, 0), some (.res_5_atHL, 0),
       some (.res_5_a, 0)] := by
  decide

theorem test_decode_extended_Bx :
    [0xB0, 0xB1, 0xB2, 0xB3, 0xB4, 0xB5, 0xB6, 0xB7, 0xB8, 0xB9, 0xBA, 0xBB, 0xBC, 0xBD, 0xBE, 0xBF].map
        (fun op => decoded [0xCB, op]) =
      [some (.res_6_b, 0), some (.res_6_c, 0), some (.res_6_d, 0), some (.res_6_e, 0), some (.res_6_h, 0),
       some (.res_6_l, 0), some (.res_6_atHL, 0), some (.res_6_a, 0), some (.res_7_b, 0), some (.res_7_c, 0),
       some (.res_7_d, 0), some (.res_7_e, 0), some (.res_7_h, 0), some (.res_7_l, 0), some (.res_7_atHL, 0),
       some (.res_7_a, 0)] := by
  decide

theorem test_decode_extended_Cx :
    [0xC0, 0xC1, 0xC2, 0xC3, 0xC4, 0xC5, 0xC6, 0xC7, 0xC8, 0xC9, 0xCA, 0xCB, 0xCC, 0xCD, 0xCE, 0xCF].map
        (fun op => decoded [0xCB, op]) =
      [some (.set_0_b, 0), some (.set_0_c, 0), some (.set_0_d, 0), some (.set_0_e, 0), some (.set_0_h, 0),
       some (.set_0_l, 0), some (.set_0_atHL, 0), some (.set_0_a, 0), some (.set_1_b, 0), some (.set_1_c, 0),
       some (.set_1_d, 0), some (.set_1_e, 0), some (.set_1_h, 0), some (.set_1_l, 0), some (.set_1_atHL, 0),
       some (.set_1_a, 0)] := by
  decide

theorem test_decode_extended_Dx :
    [0xD0, 0xD1, 0xD2, 0xD3, 0xD4, 0xD5, 0xD6, 0xD7, 0xD8, 0xD9, 0xDA, 0xDB, 0xDC, 0xDD, 0xDE, 0xDF].map
        (fun op => decoded [0xCB, op]) =
      [some (.set_2_b, 0), some (.set_2_c, 0), some (.set_2_d, 0), some (.set_2_e, 0), some (.set_2_h, 0),
       some (.set_2_l, 0), some (.set_2_atHL, 0), some (.set_2_a, 0), some (.set_3_b, 0), some (.set_3_c, 0),
       some (.set_3_d, 0), some (.set_3_e, 0), some (.set_3_h, 0), some (.set_3_l, 0), some (.set_3_atHL, 0),
       some (.set_3_a, 0)] := by
  decide

theorem test_decode_extended_Ex :
    [0xE0, 0xE1, 0xE2, 0xE3, 0xE4, 0xE5, 0xE6, 0xE7, 0xE8, 0xE9, 0xEA, 0xEB, 0xEC, 0xED, 0xEE, 0xEF].map
        (fun op => decoded [0xCB, op]) =
      [some (.set_4_b, 0), some (.set_4_c, 0), some (.set_4_d, 0), some (.set_4_e, 0), some (.set_4_h, 0),
       some (.set_4_l, 0), some (.set_4_atHL, 0), some (.set_4_a, 0), some (.set_5_b, 0), some (.set_5_c, 0),
       some (.set_5_d, 0), some (.set_5_e, 0), some (.set_5_h, 0), some (.set_5_l, 0), some (.set_5_atHL, 0),
       some (.set_5_a, 0)] := by
  decide

theorem test_decode_extended_Fx :
    [0xF0, 0xF1, 0xF2, 0xF3, 0xF4, 0xF5, 0xF6, 0xF7, 0xF8, 0xF9, 0xFA, 0xFB, 0xFC, 0xFD, 0xFE, 0xFF].map
        (fun op => decoded [0xCB, op]) =
      [some (.set_6_b, 0), some (.set_6_c, 0), some (.set_6_d, 0), some (.set_6_e, 0), some (.set_6_h, 0),
       some (.set_6_l, 0), some (.set_6_atHL, 0), some (.set_6_a, 0), some (.set_7_b, 0), some (.set_7_c, 0),
       some (.set_7_d, 0), some (.set_7_e, 0), some (.set_7_h, 0), some (.set_7_l, 0), some (.set_7_atHL, 0),
       some (.set_7_a, 0)] := by
  decide

/-- The table's words: the first byte in the low bits, a 16-bit row first byte first (log entry 10). -/
theorem test_table_words :
    decodeTableWord 8 0x76 = some .halt ∧ decodeTableWord 8 0x21 = some (.ld_hl_n16 0x0000) ∧
      decodeTableWord 16 0xCB41 = some .bit_0_c ∧ decodeTableWord 16 0x41CB = some .bit_0_c ∧
      decodeTableWord 24 0x123421 = some (.ld_hl_n16 0x1234) := by
  decide

/-! Instructions: the vectors of spec/95_test_vectors.md, section 2. -/

/-- The start state of the vectors: code in WRAM at 0xC000, the overlay off, SP = 0xDFF0. -/
def start (code : List Byte) (r : Regs) : State :=
  State.placeBytes code 0xC000
    { State.reset with bootActive := false, regs := { r with sp := 0xDFF0, pc := 0xC000 } }

/-- All registers zero. -/
def r0 : Regs := State.reset.regs

/-- Put a byte of storage or of the image. -/
def put (a : Word) (v : Byte) (s : State) : State := s.placeByte a v

/-- Set SP. -/
def sp (w : Word) (s : State) : State := { s with regs := { s.regs with sp := w } }

/-- Whether one step answers a next state of which `p` holds. -/
def stepTo (s : State) (p : State → Bool) : Bool :=
  match step s with
  | .next t => p t
  | _ => false

theorem test_V1_ld_b_a :
    stepTo (start [0x47] { r0 with a := 0x5A, f := 0xF0 })
      (fun t =>
        t.regs.b == 0x5A && t.regs.a == 0x5A && t.regs.f == 0xF0 && t.regs.pc == 0xC001 && t.totalCycles == 4) = true := by
  decide

theorem test_V3_ld_h_at_hl :
    stepTo (put 0xC100 0xC2 <| start [0x66] { r0 with h := 0xC1, l := 0x00 })
      (fun t => t.regs.h == 0xC2 && t.regs.l == 0x00 && t.totalCycles == 8) = true := by
  decide

theorem test_V4_ld_at_hl_l :
    stepTo (start [0x75] { r0 with h := 0xC1, l := 0xA7 })
      (fun t => t.busRead 0xC1A7 == 0xA7 && t.totalCycles == 8) = true := by
  decide

theorem test_V5_ld_at_hl_0x77 :
    stepTo (start [0x36, 0x77] { r0 with h := 0xC2, l := 0x00 })
      (fun t => t.busRead 0xC200 == 0x77 && t.regs.pc == 0xC002 && t.totalCycles == 12) = true := by
  decide

theorem test_V7_ld_at_de_a :
    stepTo (start [0x12] { r0 with d := 0xFF, e := 0x80, a := 0x42 })
      (fun t => t.busRead 0xFF80 == 0x42 && t.totalCycles == 8) = true := by
  decide

theorem test_V9_ld_at_0xe000_a :
    stepTo (start [0xEA, 0x00, 0xE0] { r0 with a := 0x5C })
      (fun t => t.busRead 0xE000 == 0x5C && t.regs.pc == 0xC003 && t.totalCycles == 16) = true := by
  decide

theorem test_V10_ldh_at_0x80_a :
    stepTo (start [0xE0, 0x80] { r0 with a := 0x99 })
      (fun t => t.busRead 0xFF80 == 0x99 && t.regs.pc == 0xC002 && t.totalCycles == 12) = true := by
  decide

theorem test_V11_ldh_a_at_0x45 :
    stepTo (put 0xFF45 0x63 <| start [0xF0, 0x45] r0)
      (fun t => t.regs.a == 0x63 && t.totalCycles == 12) = true := by
  decide

theorem test_V12_ldh_a_at_c :
    stepTo (put 0xFF81 0x3D <| start [0xF2] { r0 with c := 0x81 })
      (fun t => t.regs.a == 0x3D && t.regs.pc == 0xC001 && t.totalCycles == 8) = true := by
  decide

theorem test_V14_ld_at_hlinc_a :
    stepTo (start [0x22] { r0 with h := 0xFF, l := 0xFF, a := 0x1F })
      (fun t => t.intEnable == 0x1F && t.regs.h == 0x00 && t.regs.l == 0x00 && t.totalCycles == 8) = true := by
  decide

theorem test_V15_ld_a_at_hldec :
    stepTo (put 0x0000 0xE7 <| start [0x3A] { r0 with h := 0x00, l := 0x00 })
      (fun t => t.regs.a == 0xE7 && t.regs.h == 0xFF && t.regs.l == 0xFF && t.totalCycles == 8) = true := by
  decide

theorem test_V18_ld_a_at_hlinc :
    stepTo (put 0xC0FF 0x08 <| start [0x2A] { r0 with h := 0xC0, l := 0xFF })
      (fun t => t.regs.a == 0x08 && t.regs.h == 0xC1 && t.regs.l == 0x00 && t.totalCycles == 8) = true := by
  decide

theorem test_V19_ld_at_hldec_a :
    stepTo (start [0x32] { r0 with h := 0xC1, l := 0x00, a := 0x21 })
      (fun t => t.busRead 0xC100 == 0x21 && t.regs.h == 0xC0 && t.regs.l == 0xFF && t.totalCycles == 8) = true := by
  decide

theorem test_V22_ld_at_0xc100_sp :
    stepTo (sp 0xABCD <| start [0x08, 0x00, 0xC1] r0)
      (fun t =>
        t.busRead 0xC100 == 0xCD && t.busRead 0xC101 == 0xAB && t.regs.sp == 0xABCD && t.regs.pc == 0xC003 &&
        t.totalCycles == 20) = true := by
  decide

theorem test_V23_ld_sp_hl :
    stepTo (start [0xF9] { r0 with h := 0xD0, l := 0x00 })
      (fun t => t.regs.sp == 0xD000 && t.totalCycles == 8) = true := by
  decide

theorem test_V24_ld_hl_sp_8 :
    stepTo (sp 0xFFF8 <| start [0xF8, 0x08] { r0 with f := 0xC0 })
      (fun t =>
        t.regs.h == 0x00 && t.regs.l == 0x00 && t.regs.sp == 0xFFF8 && t.regs.f == 0x30 && t.totalCycles == 12) = true := by
  decide

theorem test_V26_ld_hl_sp_1 :
    stepTo (sp 0x0001 <| start [0xF8, 0xFF] r0)
      (fun t => t.regs.h == 0x00 && t.regs.l == 0x00 && t.regs.f == 0x30 && t.totalCycles == 12) = true := by
  decide

theorem test_V28_push_bc :
    stepTo (start [0xC5] { r0 with b := 0x12, c := 0x34 })
      (fun t =>
        t.busRead 0xDFEF == 0x12 && t.busRead 0xDFEE == 0x34 && t.regs.sp == 0xDFEE && t.totalCycles == 16) = true := by
  decide

theorem test_V29_pop_af :
    stepTo (sp 0xC100 <| put 0xC100 0xFF <| put 0xC101 0x12 <| start [0xF1] r0)
      (fun t => t.regs.a == 0x12 && t.regs.f == 0xF0 && t.regs.sp == 0xC102 && t.totalCycles == 12) = true := by
  decide

theorem test_V31_push_de :
    stepTo (sp 0x0001 <| start [0xD5] { r0 with d := 0x1B, e := 0x2C })
      (fun t => t.intEnable == 0x2C && t.regs.sp == 0xFFFF && t.totalCycles == 16) = true := by
  decide

theorem test_V32_pop_hl :
    stepTo (sp 0xFFFF <| put 0xFFFF 0x34 <| put 0x0000 0x12 <| start [0xE1] r0)
      (fun t =>
        t.regs.l == 0x34 && t.regs.h == 0x12 && t.regs.h == 0x12 && t.regs.l == 0x34 && t.regs.sp == 0x0001 &&
        t.totalCycles == 12) = true := by
  decide

theorem test_V34_add_a_c :
    stepTo (start [0x81] { r0 with a := 0x0F, c := 0x01, f := 0xF0 })
      (fun t => t.regs.a == 0x10 && t.regs.f == 0x20 && t.totalCycles == 4) = true := by
  decide

theorem test_V37_adc_a_b :
    stepTo (start [0x88] { r0 with a := 0xFF, b := 0x00, f := 0x10 })
      (fun t => t.regs.a == 0x00 && t.regs.f == 0xB0 && t.totalCycles == 4) = true := by
  decide

theorem test_V41_sub_0x01 :
    stepTo (start [0xD6, 0x01] { r0 with a := 0x00 })
      (fun t => t.regs.a == 0xFF && t.regs.f == 0x70 && t.totalCycles == 8) = true := by
  decide

theorem test_V44_sbc_a_0x0f :
    stepTo (start [0xDE, 0x0F] { r0 with a := 0x10, f := 0x10 })
      (fun t => t.regs.a == 0x00 && t.regs.f == 0xE0 && t.totalCycles == 8) = true := by
  decide

theorem test_V45_sbc_a_b :
    stepTo (start [0x98] { r0 with a := 0x00, b := 0xFF, f := 0x10 })
      (fun t => t.regs.a == 0x00 && t.regs.f == 0xF0 && t.totalCycles == 4) = true := by
  decide

theorem test_V46_and_0x0f :
    stepTo (start [0xE6, 0x0F] { r0 with a := 0xF0, f := 0x50 })
      (fun t => t.regs.a == 0x00 && t.regs.f == 0xA0 && t.totalCycles == 8) = true := by
  decide

theorem test_V47_xor_a :
    stepTo (start [0xAF] { r0 with a := 0x5A, f := 0xF0 })
      (fun t => t.regs.a == 0x00 && t.regs.f == 0x80 && t.totalCycles == 4) = true := by
  decide

theorem test_V50_cp_0x40 :
    stepTo (start [0xFE, 0x40] { r0 with a := 0x3C })
      (fun t => t.regs.a == 0x3C && t.regs.f == 0x50 && t.totalCycles == 8) = true := by
  decide

theorem test_V53_inc_a :
    stepTo (start [0x3C] { r0 with a := 0xFF, f := 0x10 })
      (fun t => t.regs.a == 0x00 && t.regs.f == 0xB0 && t.totalCycles == 4) = true := by
  decide

theorem test_V56_dec_l :
    stepTo (start [0x2D] { r0 with l := 0x00 })
      (fun t => t.regs.l == 0xFF && t.regs.h == 0x00 && t.regs.f == 0x60 && t.totalCycles == 4) = true := by
  decide

theorem test_V58_inc_at_hl :
    stepTo (put 0xC100 0xFF <| start [0x34] { r0 with h := 0xC1, l := 0x00 })
      (fun t => t.busRead 0xC100 == 0x00 && t.regs.f == 0xA0 && t.totalCycles == 12) = true := by
  decide

theorem test_V63_daa :
    stepTo (start [0x27] { r0 with a := 0x00, f := 0x70 })
      (fun t => t.regs.a == 0x9A && t.regs.f == 0x50 && t.totalCycles == 4) = true := by
  decide

theorem test_V65_daa :
    stepTo (start [0x27] { r0 with a := 0x0A, f := 0x40 })
      (fun t => t.regs.a == 0x0A && t.regs.f == 0x40 && t.totalCycles == 4) = true := by
  decide

theorem test_V66_cpl :
    stepTo (start [0x2F] { r0 with a := 0x35, f := 0x90 })
      (fun t => t.regs.a == 0xCA && t.regs.f == 0xF0 && t.totalCycles == 4) = true := by
  decide

theorem test_V67_scf :
    stepTo (start [0x37] { r0 with f := 0xE0 })
      (fun t => t.regs.f == 0x90 && t.totalCycles == 4) = true := by
  decide

theorem test_V68_ccf :
    stepTo (start [0x3F] { r0 with f := 0xF0 })
      (fun t => t.regs.f == 0x80 && t.totalCycles == 4) = true := by
  decide

theorem test_V71_add_hl_bc :
    stepTo (start [0x09] { r0 with h := 0x0F, l := 0x00, b := 0x01, c := 0x00 })
      (fun t => t.regs.h == 0x10 && t.regs.l == 0x00 && t.regs.f == 0x00 && t.totalCycles == 8) = true := by
  decide

theorem test_V72_add_hl_de :
    stepTo (start [0x19] { r0 with h := 0x00, l := 0x08, d := 0x00, e := 0x08, f := 0xF0 })
      (fun t => t.regs.h == 0x00 && t.regs.l == 0x10 && t.regs.f == 0xA0 && t.totalCycles == 8) = true := by
  decide

theorem test_V77_add_sp_1 :
    stepTo (sp 0x0001 <| start [0xE8, 0xFF] r0)
      (fun t => t.regs.sp == 0x0000 && t.regs.f == 0x30 && t.totalCycles == 16) = true := by
  decide

theorem test_V78_add_sp_1 :
    stepTo (sp 0x0000 <| start [0xE8, 0xFF] r0)
      (fun t => t.regs.sp == 0xFFFF && t.regs.f == 0x00 && t.totalCycles == 16) = true := by
  decide

theorem test_V80_inc_bc :
    stepTo (start [0x03] { r0 with b := 0xFF, c := 0xFF, f := 0xF0 })
      (fun t => t.regs.b == 0x00 && t.regs.c == 0x00 && t.regs.f == 0xF0 && t.totalCycles == 8) = true := by
  decide

theorem test_V82_dec_de :
    stepTo (start [0x1B] { r0 with d := 0x00, e := 0x00 })
      (fun t => t.regs.d == 0xFF && t.regs.e == 0xFF && t.regs.f == 0x00 && t.totalCycles == 8) = true := by
  decide

theorem test_V85_rlca :
    stepTo (start [0x07] { r0 with a := 0x00, f := 0xF0 })
      (fun t => t.regs.a == 0x00 && t.regs.f == 0x00 && t.totalCycles == 4) = true := by
  decide

theorem test_V87_rla :
    stepTo (start [0x17] { r0 with a := 0x00, f := 0x10 })
      (fun t => t.regs.a == 0x01 && t.regs.f == 0x00 && t.totalCycles == 4) = true := by
  decide

theorem test_V88_rrca :
    stepTo (start [0x0F] { r0 with a := 0x01 })
      (fun t => t.regs.a == 0x80 && t.regs.f == 0x10 && t.totalCycles == 4) = true := by
  decide

theorem test_V89_rra :
    stepTo (start [0x1F] { r0 with a := 0x01, f := 0x90 })
      (fun t => t.regs.a == 0x80 && t.regs.f == 0x10 && t.totalCycles == 4) = true := by
  decide

theorem test_V90_rlc_b :
    stepTo (start [0xCB, 0x00] { r0 with b := 0x00, f := 0x70 })
      (fun t => t.regs.b == 0x00 && t.regs.f == 0x80 && t.regs.pc == 0xC002 && t.totalCycles == 8) = true := by
  decide

theorem test_V92_rrc_c :
    stepTo (start [0xCB, 0x09] { r0 with c := 0x01 })
      (fun t => t.regs.c == 0x80 && t.regs.f == 0x10 && t.totalCycles == 8) = true := by
  decide

theorem test_V93_rl_d :
    stepTo (start [0xCB, 0x12] { r0 with d := 0x80 })
      (fun t => t.regs.d == 0x00 && t.regs.f == 0x90 && t.totalCycles == 8) = true := by
  decide

theorem test_V94_rr_e :
    stepTo (start [0xCB, 0x1B] { r0 with e := 0x01, f := 0x10 })
      (fun t => t.regs.e == 0x80 && t.regs.f == 0x10 && t.totalCycles == 8) = true := by
  decide

theorem test_V97_sra_l :
    stepTo (start [0xCB, 0x2D] { r0 with l := 0x81 })
      (fun t => t.regs.l == 0xC0 && t.regs.f == 0x10 && t.totalCycles == 8) = true := by
  decide

theorem test_V99_swap_a :
    stepTo (start [0xCB, 0x37] { r0 with a := 0xF1, f := 0xF0 })
      (fun t => t.regs.a == 0x1F && t.regs.f == 0x00 && t.totalCycles == 8) = true := by
  decide

theorem test_V101_srl_a :
    stepTo (start [0xCB, 0x3F] { r0 with a := 0x81 })
      (fun t => t.regs.a == 0x40 && t.regs.f == 0x10 && t.totalCycles == 8) = true := by
  decide

theorem test_V103_rlc_at_hl :
    stepTo (put 0xC100 0x81 <| start [0xCB, 0x06] { r0 with h := 0xC1, l := 0x00 })
      (fun t => t.busRead 0xC100 == 0x03 && t.regs.f == 0x10 && t.totalCycles == 16) = true := by
  decide

theorem test_V105_bit_7_h :
    stepTo (start [0xCB, 0x7C] { r0 with h := 0x80, f := 0x10 })
      (fun t => t.regs.h == 0x80 && t.regs.f == 0x30 && t.totalCycles == 8) = true := by
  decide

theorem test_V107_bit_3_at_hl :
    stepTo (put 0xC100 0x08 <| start [0xCB, 0x5E] { r0 with h := 0xC1, l := 0x00 })
      (fun t => t.busRead 0xC100 == 0x08 && t.regs.f == 0x20 && t.totalCycles == 12) = true := by
  decide

theorem test_V109_res_7_at_hl :
    stepTo (put 0xC100 0xFF <| start [0xCB, 0xBE] { r0 with h := 0xC1, l := 0x00 })
      (fun t => t.busRead 0xC100 == 0x7F && t.regs.f == 0x00 && t.totalCycles == 16) = true := by
  decide

theorem test_V111_set_4_at_hl :
    stepTo (start [0xCB, 0xE6] { r0 with h := 0xFF, l := 0x0F, f := 0xA0 })
      (fun t => t.intFlag == 0x10 && t.regs.f == 0xA0 && t.totalCycles == 16) = true := by
  decide

theorem test_V113_jp_nz_0xc123 :
    stepTo (start [0xC2, 0x23, 0xC1] { r0 with f := 0x80 })
      (fun t => t.regs.pc == 0xC003 && t.totalCycles == 12) = true := by
  decide

theorem test_V116_jp_hl :
    stepTo (start [0xE9] { r0 with h := 0x01, l := 0x50 })
      (fun t => t.regs.pc == 0x0150 && t.totalCycles == 4) = true := by
  decide

theorem test_V119_jr_128 :
    stepTo (start [0x18, 0x80] r0)
      (fun t => t.regs.pc == 0xBF82 && t.totalCycles == 12) = true := by
  decide

theorem test_V122_jr_nc_3 :
    stepTo (start [0x30, 0xFD] { r0 with f := 0xE0 })
      (fun t => t.regs.pc == 0xBFFF && t.totalCycles == 12) = true := by
  decide

theorem test_V123_call_0xc200 :
    stepTo (start [0xCD, 0x00, 0xC2] r0)
      (fun t =>
        t.regs.pc == 0xC200 && t.regs.sp == 0xDFEE && t.busRead 0xDFEF == 0xC0 && t.busRead 0xDFEE == 0x03 &&
        t.totalCycles == 24) = true := by
  decide

theorem test_V124_call_z_0xc200 :
    stepTo (start [0xCC, 0x00, 0xC2] { r0 with f := 0x00 })
      (fun t => t.regs.pc == 0xC003 && t.regs.sp == 0xDFF0 && t.totalCycles == 12) = true := by
  decide

theorem test_V127_ret_c :
    stepTo (sp 0xDFEE <| put 0xDFEE 0x03 <| put 0xDFEF 0xC0 <| start [0xD8] { r0 with f := 0x10 })
      (fun t => t.regs.pc == 0xC003 && t.regs.sp == 0xDFF0 && t.totalCycles == 20) = true := by
  decide

theorem test_V128_ret_c :
    stepTo (sp 0xDFEE <| put 0xDFEE 0x03 <| put 0xDFEF 0xC0 <| start [0xD8] { r0 with f := 0x00 })
      (fun t => t.regs.pc == 0xC001 && t.regs.sp == 0xDFEE && t.totalCycles == 8) = true := by
  decide

theorem test_V129_reti :
    stepTo (sp 0xDFEE <| put 0xDFEE 0x03 <| put 0xDFEF 0xC0 <| start [0xD9] r0)
      (fun t => t.regs.pc == 0xC003 && t.regs.sp == 0xDFF0 && t.ime && t.totalCycles == 16) = true := by
  decide

theorem test_V131_rst_0x00 :
    stepTo (sp 0xC002 <| start [0xC7] r0)
      (fun t =>
        t.regs.pc == 0x0000 && t.regs.sp == 0xC000 && t.busRead 0xC001 == 0xC0 && t.busRead 0xC000 == 0x01 &&
        t.totalCycles == 16) = true := by
  decide

theorem test_V135_di :
    stepTo ({ start [0xF3] r0 with ime := true })
      (fun t => !t.ime && t.regs.pc == 0xC001 && t.totalCycles == 4) = true := by
  decide

theorem test_V136_ei :
    stepTo (start [0xFB] r0)
      (fun t => t.ime && t.regs.pc == 0xC001 && t.totalCycles == 4) = true := by
  decide

/-! The fault, the halted machine, and an instruction fetched from the reset state. -/

/-- V138, second step. -/
theorem test_V138_invalid :
    stepTo (start [0xD3] r0)
      (fun t =>
        t.fault == some (.invalidOpcode 0xC000 0xD3) && t.regs.pc == 0xC000 && t.totalCycles == 0 && t.events == [] &&
          !stepTo t (fun _ => true)) = true := by
  decide

/-- V139: the dispatch made before the fault stands. -/
theorem test_V139_invalid_at_vector :
    stepTo (put 0x0048 0xDD <| put 0xFFFF 0x02 <| put 0xFF0F 0x02 <| { start [0x00] r0 with ime := true })
      (fun t =>
        t.fault == some (.invalidOpcode 0x0048 0xDD) && t.regs.sp == 0xDFEE && t.busRead 0xDFEF == 0xC0 &&
          t.busRead 0xDFEE == 0x00 && t.intFlag == 0x00 && !t.ime && t.totalCycles == 0) = true := by
  decide

/-- V137, second step. -/
theorem test_V137_halted :
    stepTo { start [0x04] r0 with halted := true }
      (fun t => t.regs.pc == 0xC000 && t.regs.b == 0x00 && t.halted && t.totalCycles == 4) = true := by
  decide

/-- The table words of `LD HL,n16` (0x21) and `BIT 1,(HL)` (0xCB 0x4E) run as the first instruction after reset; HL is
0x0000, where 0xCB stands, whose bit 1 is set. -/
theorem test_withFetchWord :
    stepTo (State.reset.withFetchWord 24 0x123421) (fun t => t.regs.hl == 0x1234 && t.regs.pc == 0x0003) = true ∧
      stepTo (State.reset.withFetchWord 16 0xCB4E) (fun t => t.regs.f == 0x20 && t.regs.pc == 0x0002) = true := by
  decide

/-- Rules R7, R418: an event of the host is delivered before the step; the audio call is one event (R13). -/
theorem test_R418_host_turn :
    stepTo { start [0x00] r0 with hostInputs := [some ⟨0b0001, 0b0000⟩, none] }
      (fun t => t.joypad.dir == 0b0001 && t.intFlag == 0x10 && t.hostInputs == [none] && t.events == [.audioTick 4]) = true := by
  decide

/-! Interrupts. -/

/-- S40, S41, S43. -/
theorem test_S40_no_dispatch :
    stepTo (put 0xFFFF 0x1F <| put 0xFF0F 0x1F <| start [0x00] r0) (fun t => t.regs.pc == 0xC001 && t.intFlag == 0x1F) = true ∧
    stepTo (put 0xFFFF 0x08 <| put 0xFF0F 0x17 <| { start [0x00] r0 with ime := true })
      (fun t => t.regs.pc == 0xC001 && t.intFlag == 0x17 && t.ime) = true ∧
    stepTo (put 0xFFFF 0xE0 <| put 0xFF0F 0xE0 <| { start [0x00] r0 with ime := true })
      (fun t => t.regs.pc == 0xC001 && t.intFlag == 0xE0) = true := by
  decide

/-- S42. -/
theorem test_S42_priority :
    stepTo (put 0xFFFF 0x18 <| put 0xFF0F 0x1C <| { start [0x00] r0 with ime := true })
      (fun t =>
        t.regs.pc == 0x0059 && t.intFlag == 0x14 && !t.ime && t.regs.sp == 0xDFEE && t.busRead 0xDFEF == 0xC0 &&
          t.busRead 0xDFEE == 0x00 && t.totalCycles == 24) = true := by
  decide

/-! The bus. -/

/-- A firmware with 0x50 at 0x0050 over an image with 0xAA there. -/
def overlaid : State :=
  { State.reset with params := { Params.default with bootRom := ⟨[(0x50, 0x50)]⟩, rom := ⟨[(0x50, 0xAA), (0x150, 0x77)]⟩ } }

/-- S1 to S4. -/
theorem test_S1_overlay :
    overlaid.memRead 0x0050 = 0x50 ∧ overlaid.memRead 0x0150 = 0x77 ∧ overlaid.busRead 0x0050 = 0xAA ∧
    (overlaid.busWrite 0xFF50 0x02).memRead 0x0050 = 0x50 ∧ (overlaid.busWrite 0xFF50 0x01).memRead 0x0050 = 0xAA ∧
    ((overlaid.busWrite 0xFF50 0x01).busWrite 0xFF50 0x00).memRead 0x0050 = 0xAA ∧ overlaid.busRead 0xFF50 = 0x00 := by
  decide

/-- S5 to S9. -/
theorem test_S5_bus :
    (State.reset.busWrite 0xFDFF 0x9E).busRead 0xDDFF = 0x9E ∧ (State.reset.busWrite 0xFEA0 0x12).busRead 0xFEA0 = 0x00 ∧
    (State.reset.busWrite 0xFFFF 0xFF).busRead 0xFFFF = 0xFF ∧ (State.reset.busWrite 0xFF0F 0xE1).busRead 0xFF0F = 0xE1 ∧
    (State.reset.busWrite 0xFF44 0x55).busRead 0xFF44 = 0x00 ∧ (State.reset.busWrite 0xFF41 0xFF).busRead 0xFF41 = 0x78 := by
  decide

/-- Rules R72, R78, R417: IF and a halted machine, a write to the audio range, the joypad's select bits. -/
theorem test_R72_register_writes :
    let s := { State.reset with halted := true, intFlag := 0x01 }
    (s.busWrite 0xFF0F 0xE4).halted = true ∧ (s.busWrite 0xFF0F 0xE4).intFlag = 0xE4 ∧
      (s.busWrite 0xFF10 0x80).events = [.audioWrite 0xFF10 0x80] ∧ (s.busWrite 0xFF00 0xDF).joypad.select = 0b01 ∧
      (s.busWrite 0xFF00 0xDF).intFlag = 0x01 := by
  decide

/-! The display, the timer and the joypad. -/

/-- Reset with the display enabled, in a given mode, line and clock. -/
def lit (mode ly : Byte) (clock : Nat) : State :=
  let s := State.reset.busWrite 0xFF40 0x80
  { s with display := { s.display with stat := mode, ly := ly, modeClock := clock } }

/-- S10, S11: the first line is 204 cycles; the excess is carried. -/
theorem test_S10_modes :
    ((lit 0 0 200).displayUpdate 4).display.mode = 2 ∧ ((lit 0 0 200).displayUpdate 4).display.ly = 1 ∧
    ((lit 2 1 72).displayUpdate 12).display.mode = 3 ∧ ((lit 2 1 72).displayUpdate 12).display.modeClock = 4 ∧
    ((lit 3 1 160).displayUpdate 12).display.mode = 0 ∧ ((lit 3 1 160).displayUpdate 12).events = [.renderLine 1] := by
  decide

/-- S12, S13. -/
theorem test_S12_frame :
    ((lit 0 143 200).displayUpdate 4).intFlag = 0x01 ∧ ((lit 0 143 200).displayUpdate 4).events = [.presentFrame] ∧
    ((lit 0 143 200).displayUpdate 4).display.mode = 1 ∧ ((lit 1 144 452).displayUpdate 4).display.ly = 145 ∧
    ((lit 1 153 452).displayUpdate 4).display.ly = 0 ∧ ((lit 1 153 452).displayUpdate 4).display.mode = 2 := by
  decide

/-- S14: `STAT` = 0x38, `LYC` = 0xFF. -/
theorem test_S14_stat_sources :
    let f := fun mode ly clock => ((((lit mode ly clock).busWrite 0xFF41 0x38).busWrite 0xFF45 0xFF).displayUpdate 4).intFlag
    f 0 0 200 = 0x02 ∧ f 3 1 168 = 0x02 ∧ f 0 143 200 = 0x03 ∧ f 1 144 452 = 0x00 ∧ f 1 153 452 = 0x02 := by
  decide

/-- S16: the coincidence request fires in every update of the line. -/
theorem test_S16_coincidence :
    let s := ((lit 0 0 200).busWrite 0xFF45 0x01).busWrite 0xFF41 0x40
    let t := s.displayUpdate 4
    let u := State.displayUpdate { t with intFlag := 0x00 } 4
    t.display.stat = 0x46 ∧ t.intFlag = 0x02 ∧ u.display.stat = 0x46 ∧ u.intFlag = 0x02 := by
  decide

/-- S19, both parts. -/
theorem test_S19_disabled :
    (((lit 3 1 116).busWrite 0xFF40 0x00).displayUpdate 4).display.ly = 0 ∧
    (((lit 3 1 116).busWrite 0xFF40 0x00).displayUpdate 4).display.stat = 0x00 ∧
    (State.displayUpdate { State.reset with params := { Params.default with lcdDisableGatesFsm := false } } 204).display.ly = 1 := by
  decide

/-- S20a: a copy of 160 bytes. -/
theorem test_S20a_transfer :
    let s := ((State.reset.busWrite 0xC100 0x01).busWrite 0xC19F 0xDE).busWrite 0xFF46 0xC1
    s.display.oam = ⟨[]⟩ ∧ s.busRead 0xFF46 = 0xC1 ∧
      (let d := (s.displayUpdate 8).display
       d.oam = ⟨[(0, 0x01), (159, 0xDE)]⟩ ∧ d.dmaPending = false ∧ d.dmaBudget = 640) ∧
      (State.displayUpdate { s with display := { s.display with dmaPending := false, dmaBudget := 640 } } 24).display.dmaBudget =
        616 := by
  decide +kernel

/-- S20, S21, S23, S24. -/
theorem test_S20_timer :
    let s := (State.reset.busWrite 0xFF07 0x05).busWrite 0xFF05 0x10
    let o := ((State.reset.busWrite 0xFF07 0x05).busWrite 0xFF05 0xFF).busWrite 0xFF06 0xF0
    (s.timerUpdate 12).timer.tima = 0x10 ∧ ((s.timerUpdate 12).timerUpdate 4).timer.tima = 0x11 ∧
    (o.timerUpdate 16).timer.tima = 0xF0 ∧ (o.timerUpdate 16).intFlag = 0x04 ∧
    ((State.reset.busWrite 0xFF07 0x01).timerUpdate 1600).timer.tima = 0x00 ∧
    (State.reset.busWrite 0xFF07 0xFE).busRead 0xFF07 = 0x06 := by
  decide

/-- `TIMA` after `c` cycles from reset with this `TAC`. -/
def timaAfter (tac : Byte) (c : Nat) : Byte := ((State.reset.busWrite 0xFF07 tac).timerUpdate c).timer.tima

/-- The four periods (S22). -/
theorem test_S22_periods :
    timaAfter 0x04 1023 = 0x00 ∧ timaAfter 0x04 1024 = 0x01 ∧ timaAfter 0x05 15 = 0x00 ∧ timaAfter 0x05 16 = 0x01 := by
  decide

theorem test_S22_slow_periods :
    timaAfter 0x06 63 = 0x00 ∧ timaAfter 0x06 64 = 0x01 ∧ timaAfter 0x07 255 = 0x00 ∧ timaAfter 0x07 256 = 0x01 := by
  decide

/-- S25. -/
theorem test_S25_divider :
    (State.reset.timerUpdate 255).timer.div = 0x00 ∧ (State.reset.timerUpdate 256).timer.div = 0x01 ∧
    ((State.reset.timerUpdate 256).busWrite 0xFF04 0x99).timer = State.reset.timer := by
  decide

/-- S26, S27. -/
theorem test_S26_joypad :
    let s := (State.reset.busWrite 0xFF00 0x20).setButtons ⟨0b0101, 0b0000⟩
    let t := State.setButtons { s with intFlag := 0x00 } ⟨0b0101, 0b0000⟩
    let u := t.setButtons ⟨0b0100, 0b0010⟩
    State.reset.busRead 0xFF00 = 0xFF ∧ s.busRead 0xFF00 = 0xEA ∧ s.intFlag = 0x10 ∧ t.intFlag = 0x00 ∧ u.intFlag = 0x10 ∧
      u.busRead 0xFF00 = 0xEB ∧ (u.busWrite 0xFF00 0x10).busRead 0xFF00 = 0xDD := by
  decide

/-! The cartridge. -/

/-- A cartridge whose bank b starts with the byte `first + b`, for the banks listed, at power-on. -/
def cart (ty ram : Byte) (size : Nat) (banks : List Nat) (first : Byte) : State :=
  State.resetWith
    { Params.default with
      cartType := ty, ramSizeCode := ram, romSize := size,
      rom := ⟨banks.map fun b => (b * 0x4000, first + BitVec.ofNat 8 b)⟩ }
    InitImages.default

/-- S29 to S32. -/
theorem test_S29_type1 :
    let s := cart 0x01 0x00 0x20000 [0, 1, 2, 3, 4, 5] 0xB0
    s.busRead 0x4000 = 0xB1 ∧ (s.busWrite 0x2000 0x23).busRead 0x4000 = 0xB3 ∧ (s.busWrite 0x3FFF 0x00).busRead 0x4000 = 0xB1 ∧
      (s.busWrite 0x2000 0x20).busRead 0x4000 = 0xB1 ∧ (s.busWrite 0x2000 0x0D).busRead 0x4000 = 0xB5 ∧
      ((s.busWrite 0x2000 0x02).busWrite 0x4000 0x01).busRead 0x4000 = 0xB2 := by
  decide

/-- S33. -/
theorem test_S33_modes :
    let s := ((cart 0x03 0x03 0x200000 [5, 69] 0x00).busWrite 0x2000 0x05).busWrite 0x4000 0x02
    let t := s.busWrite 0x6000 0x01
    s.busRead 0x4000 = 0x45 ∧ t.busRead 0x4000 = 0x05 ∧
      ((t.busWrite 0x0000 0x0A).busWrite 0xA123 0x5A).cram.read 0x4123 = 0x5A := by
  decide

/-- S34 to S37. -/
theorem test_S34_type2 :
    let s := cart 0x05 0x00 0x40000 [1, 5, 10] 0xB0
    let t := (s.busWrite 0x0000 0x0A).busWrite 0xA005 0xAB
    (s.busWrite 0x2000 0x05).busRead 0x4000 = 0xB1 ∧ (s.busWrite 0x2100 0x05).busRead 0x4000 = 0xB5 ∧
      (s.busWrite 0x2100 0x10).busRead 0x4000 = 0xB1 ∧ s.busRead 0xA005 = 0xFF ∧ t.busRead 0xA005 = 0xFB ∧
      t.busRead 0xBE05 = 0xFB ∧ (t.busWrite 0x0100 0x0A).busRead 0x4000 = 0xBA ∧
      (t.busWrite 0x0000 0x00).busRead 0xA005 = 0xFF := by
  decide

/-- S38 to S39a. -/
theorem test_S38_type3 :
    let s := cart 0x10 0x03 0x200000 [1, 127] 0x00
    let t := ((s.busWrite 0x0000 0x0A).busWrite 0x4000 0x02).busWrite 0xA010 0x66
    let u := (t.busWrite 0x4000 0x08).busWrite 0xA000 0x3B
    (s.busWrite 0x2000 0x7F).busRead 0x4000 = 0x7F ∧ (s.busWrite 0x2000 0x80).busRead 0x4000 = 0x01 ∧
      t.cram.read 0x4010 = 0x66 ∧ u.busRead 0xBFFF = 0x3B ∧ (u.busWrite 0x4000 0x05).busRead 0xA010 = 0xFF ∧
      (u.busWrite 0x4000 0x02).busRead 0xA010 = 0x66 := by
  decide

/-! Witnesses: for each statement with hypotheses, a state and operands that meet them, at the boundary values of each clause. -/

/-- One step answers a next state. -/
theorem nextOf {s : State} (h : stepTo s (fun _ => true) = true) : ∃ t, step s = .next t := by
  unfold stepTo at h
  cases hs : step s <;> simp_all

/-- The model's memory of a cartridge of a type, with its controller as given. -/
def withMbc (m : Mbc) (ty ram : Byte) : State :=
  { State.reset with mbc := m, params := { Params.default with cartType := ty, ramSizeCode := ram } }

/-- `outside`, the premise of every frame over stored bytes: another byte of the same storage, another storage, a window that
no controller register remaps, and every address where the store is discarded. -/
theorem witness_outside :
    State.reset.outside 0xC002 0xC003 ∧ State.reset.outside 0xFFFF 0xFF0F ∧ State.reset.outside 0x2000 0x3FFF ∧
      State.reset.outside 0xFEA0 0xFEA0 ∧ ¬ State.reset.outside 0x2000 0x4000 ∧ ¬ State.reset.outside 0xE002 0xC002 := by
  refine ⟨.inr ?_, .inr ?_, .inr ?_, .inl ?_, ?_, ?_⟩ <;> simp [State.storesNothing, State.outside, region, ioRegion]

theorem witness_DecodeEncodeRoundTrip : decode [0xCB, 0x4E, 0x00] = .ok (.bit_1_atHL, [0x00]) := by decide

theorem witness_LengthsAndUnassigned : (0xFD : Byte) ∈ unassignedOpcodes ∧ decode [0xFD] = .ok (Instr.illegal .xfd, []) := by decide

/-- The three clauses: a fault, a halted machine, an instruction of one, two and three bytes, also one that ends at 0xFFFF. -/
theorem witness_StepRunsDecoded_fault : ({ State.reset with fault := some (.invalidOpcode 0xC000 0xD3) } : State).fault ≠ none := by
  decide

theorem witness_StepRunsDecoded_halted :
    let s := { State.reset with halted := true }
    s.fault = none ∧ (State.interruptDispatch { s.hostTurn with cycles := 0 }).halted = true := by
  decide

/-- The three queues of the host: empty, nothing before this step, an event. -/
theorem witness_StepRunsDecoded_host :
    State.reset.hostInputs = [] ∧ ({ State.reset with hostInputs := [none] } : State).hostInputs = none :: [] ∧
      ({ State.reset with hostInputs := [some ⟨0b0001, 0⟩] } : State).hostInputs = some ⟨0b0001, 0⟩ :: [] := by
  decide

theorem witness_StepRunsDecoded :
    let s := put 0xFFFE 0xCB <| put 0xFFFF 0x37 <| { start [] r0 with regs := { r0 with pc := 0xFFFE } }
    let b := State.interruptDispatch { s.hostTurn with cycles := 0 }
    s.fault = none ∧ b.halted = false ∧
      decode [b.fetch8.1, b.fetch8.2.fetch8.1, b.fetch8.2.fetch8.2.fetch8.1] = .ok (.swap_a, [0x00]) ∧
      (∀ k : Fin 3, region (b.regs.pc + BitVec.ofNat 16 k.val) ≠ .audio) := by
  decide

/-- Stacks in WRAM (at its first bytes), across 0x0000 in IE and HRAM, in HRAM's first bytes, and in cartridge RAM. -/
theorem witness_PushThenPop :
    (∀ w ∈ ([0xC002, 0x0000, 0xFF82, 0xE002] : List Word),
        (sp w State.reset).readsBack (w - 1) ∧ (sp w State.reset).readsBack (w - 2)) ∧
      (let s := sp 0xA002 (withMbc (.type1 ⟨1, 0, 0, true⟩) 0x03 0x02)
       s.readsBack (s.regs.sp - 1) ∧ s.readsBack (s.regs.sp - 2)) ∧
      State.reset.regs.f &&& 0x0F = 0 := by
  refine ⟨?_, ⟨⟨1, by decide⟩, ⟨0, by decide⟩⟩, by decide⟩
  intro w h
  simp only [List.mem_cons, List.not_mem_nil, or_false] at h
  obtain rfl | rfl | rfl | rfl := h <;> exact ⟨trivial, trivial⟩

theorem witness_DecimalArithmetic : isBcd 0x99 = true ∧ isBcd 0x00 = true := by decide

theorem witness_IncDec16 : (R16.sp : R16) ≠ .hl := by decide

theorem witness_CallsAndRestarts_Returns : condHolds .z 0x80 = true ∧ condHolds .z 0x70 = false := by decide

theorem witness_InvalidOpcodes :
    let s := start [0xFD] r0
    let b := State.interruptDispatch { s.hostTurn with cycles := 0 }
    s.fault = none ∧ b.halted = false ∧ b.memRead b.regs.pc ∈ unassignedOpcodes := by
  decide

/-- A new press, and a release beside a button that stays. -/
theorem witness_Requests :
    (∃ k, k < 4 ∧ ((0b1000 : BitVec 4).getLsbD k = true ∧ State.reset.joypad.dir.getLsbD k = false)) ∧
      (let s := State.setButtons State.reset ⟨0b0011, 0b1000⟩
       ∀ k, k < 4 → ((0b0010 : BitVec 4).getLsbD k = true → s.joypad.dir.getLsbD k = true) ∧
         ((0b1000 : BitVec 4).getLsbD k = true → s.joypad.act.getLsbD k = true)) :=
  ⟨⟨3, by decide⟩, by decide⟩

/-- Whether a state meets the premises of the clauses of a dispatch. -/
def dispatches (s : State) : Bool :=
  let p := (s.busWrite (s.regs.sp - 1) (hiByte s.regs.pc)).busWrite (s.regs.sp - 2) (loByte s.regs.pc)
  s.ime && s.intEnable &&& s.intFlag &&& 0x1F != 0 && p.intEnable &&& p.intFlag &&& 0x1F != 0 &&
    [s.regs.sp - 1, s.regs.sp - 2].all fun x => x != 0xFFFF && x != 0xFF0F

/-- Nothing pending; a source pending at either end of the priority, the push leaving IE and IF alone. -/
theorem witness_InterruptDispatch :
    State.reset.intEnable &&& State.reset.intFlag &&& 0x1F = 0 ∧
    dispatches { start [0x00] r0 with ime := true, intEnable := 0x1F, intFlag := 0x01 } = true ∧
    dispatches { start [0x00] r0 with ime := true, intEnable := 0x1F, intFlag := 0x10 } = true := by
  decide

/-- A push onto IE that withdraws the only request: the clause that leaves the source open is not empty. -/
theorem witness_InterruptDispatch_withdrawn :
    let s := sp 0x0000 <| put 0xFFFF 0x01 <| put 0xFF0F 0x01 <| { start [0x00] r0 with ime := true }
    let p := (s.busWrite (s.regs.sp - 1) (hiByte s.regs.pc)).busWrite (s.regs.sp - 2) (loByte s.regs.pc)
    s.intEnable &&& s.intFlag &&& 0x1F ≠ 0 ∧ p.intEnable &&& p.intFlag &&& 0x1F = 0 := by
  decide

theorem witness_FlagImeHaltWriters :
    (∃ t, exec .nop State.reset = .next t) ∧ ¬ Instr.nop.writesFlags ∧ ¬ Instr.nop.writesIME ∧ Instr.nop ≠ .halt := by
  refine ⟨⟨_, rfl⟩, ?_, ?_, by decide⟩
  · unfold Instr.writesFlags Instr.alu Instr.aluImm Instr.inc Instr.dec Instr.addHL Instr.rot Instr.bit
    rintro (⟨op, o, h⟩ | ⟨op, n, h⟩ | ⟨o, h⟩ | ⟨o, h⟩ | h | h | h | h | ⟨p, h⟩ | ⟨e, h⟩ | ⟨e, h⟩ | h | h | h | h |
      ⟨op, o, h⟩ | ⟨b, o, h⟩ | h)
    all_goals first
      | cases h
      | split at h <;> cases h
  · rintro (h | h | h) <;> cases h

theorem witness_FlagsLowNibble :
    (start [0x04] { r0 with f := 0xF0 }).regs.f &&& 0x0F = 0 ∧ (∃ t, step (start [0x04] { r0 with f := 0xF0 }) = .next t) :=
  ⟨by decide, nextOf (by decide)⟩

/-- The ends of the four ranges, and one byte under two addresses. -/
theorem witness_RamReadsBack :
    [0xC000, 0xDFFF, 0xFF80, 0xFFFE, 0x8000, 0x9FFF, 0xFE00, 0xFE9F, 0xE000, 0xFDFF].all (fun a => (region a).isRam) = true ∧
      region 0xE000 = region 0xC000 ∧ region 0xC001 ≠ region 0xC000 := by
  decide

theorem witness_EchoAndUnmapped :
    (0xE000 : Word).toNat = 0xE000 ∧ (0xFDFF : Word).toNat = 0xFDFF ∧
      [0xFEA0, 0xFEFF, 0xFF01, 0xFF03, 0xFF08, 0xFF0E, 0xFF4C, 0xFF4F, 0xFF51, 0xFF7F].all
        (fun a : Word => unmappedAddress a.toNat && region a == .unmapped) = true := by
  decide

theorem witness_BootLock_FirmwareUnreadable :
    (start [0x00] r0).bootActive = false ∧ ∃ t, step (start [0x00] r0) = .next t :=
  ⟨by decide, nextOf (by decide)⟩

/-- A pressed button's bit, the ends of the audio range, and an address outside it. -/
theorem witness_DeviceRegisters :
    (∃ k, k < 4 ∧ (State.reset.busRead 0xFF00).getLsbD k = true) ∧ (0xFF10 : Word).toNat = 0xFF10 ∧
      (0xFF3F : Word).toNat = 0xFF3F ∧ region 0xFF3F = .audio ∧ region 0xFF0F ≠ .audio ∧ region 0xFF40 ≠ .audio :=
  ⟨⟨3, by decide⟩, by decide⟩

/-- The ends of the ROM range and of the RAM window. -/
theorem witness_RomOnly :
    State.reset.mbc = .romOnly ∧ State.reset.params.romSizeOk = true ∧ (0x7FFF : Word).toNat ≤ 0x7FFF ∧
      (0xA000 : Word).toNat = 0xA000 ∧ (0xBFFF : Word).toNat = 0xBFFF := by
  decide

/-- Each controller, and the ends of its write ranges. -/
theorem witness_BankRegisters :
    (withMbc (.type1 ⟨1, 2, 0, false⟩) 0x01 0x00).mbc = .type1 ⟨1, 2, 0, false⟩ ∧
      (withMbc (.type2 ⟨1, false⟩) 0x05 0x00).mbc = .type2 ⟨1, false⟩ ∧
      (withMbc (.type3 ⟨1, 0, false, 0x00, ⟨0, 0, 0, 0, 0⟩⟩) 0x0F 0x00).mbc.variant = .type3 ∧
      [0x0000, 0x1FFF, 0x2000, 0x3FFF, 0x4000, 0x5FFF, 0x6000, 0x7FFF].all (fun x : Word => x.toNat ≤ 0x7FFF) = true ∧
      (0x3EFF : Word).getLsbD 8 = false ∧ (0x3FFF : Word).getLsbD 8 = true := by
  decide

/-- A cartridge of each type, and the ends of the select ranges and of the window. -/
theorem witness_RomBankSelect :
    (0x4000 : Word).toNat = 0x4000 ∧ (0x7FFF : Word).toNat = 0x7FFF ∧ (0x2000 : Word).toNat = 0x2000 ∧
      (0x3FFF : Word).toNat = 0x3FFF ∧ (0x0100 : Word).getLsbD 8 = true ∧ (0x3FFF : Word).getLsbD 8 = true ∧
      (withMbc (.type1 ⟨1, 2, 0, false⟩) 0x01 0x00).mbc.variant = .type1 ∧
      (withMbc (.type2 ⟨1, false⟩) 0x05 0x00).mbc.variant = .type2 ∧
      (withMbc (.type3 ⟨1, 0, false, 0x00, ⟨0, 0, 0, 0, 0⟩⟩) 0x0F 0x00).mbc.variant = .type3 := by
  decide

/-- Two addresses of one cell, and two of different cells. -/
theorem witness_NibbleRam :
    (withMbc (.type2 ⟨1, true⟩) 0x05 0x00).mbc = .type2 ⟨1, true⟩ ∧ (0xA000 : Word).toNat % 512 = (0xBE00 : Word).toNat % 512 ∧
      (0xBFFF : Word).toNat % 512 ≠ (0xA000 : Word).toNat % 512 := by
  decide

/-- RAM disabled; enabled, in both modes of type 1 and at both ends of the bank and clock selectors of type 3; without storage;
and the ends of the selects that map nothing. -/
theorem witness_RamWindow :
    (0x1FFF : Word).toNat ≤ 0x1FFF ∧ Mbc1.ramEnabled ⟨1, 0, 0, false⟩ = false ∧
      (∀ m ∈ ([0, 1] : List (BitVec 1)),
        let s := withMbc (.type1 ⟨1, 3, m, true⟩) 0x03 0x03
        s.mbc = .type1 ⟨1, 3, m, true⟩ ∧ 0 < ramSize s.params) ∧
      (∀ r ∈ ([0, 3, 8, 12] : List (BitVec 4)),
        let s := withMbc (.type3 ⟨1, r, true, 0x00, ⟨0, 0, 0, 0, 0⟩⟩) 0x10 0x01
        s.mbc = .type3 ⟨1, r, true, 0x00, ⟨0, 0, 0, 0, 0⟩⟩ ∧ 0 < ramSize s.params ∧
          (r.toNat ≤ 3 ∨ 8 ≤ r.toNat ∧ r.toNat ≤ 12)) ∧
      ramSize (withMbc (.type1 ⟨1, 0, 0, true⟩) 0x01 0x03).params = 0 ∧
      ramSize (withMbc (.type3 ⟨1, 3, true, 0x00, ⟨0, 0, 0, 0, 0⟩⟩) 0x11 0x03).params = 0 ∧
      [4, 7, 13, 15].all (fun r : BitVec 4 => 4 ≤ r.toNat && r.toNat ≤ 7 || 13 ≤ r.toNat) = true := by
  decide

theorem witness_TimerMatchesLoops : State.reset.timer.divClock < 256 := by decide

/-- The display running, in each mode, one cycle short of the threshold and at it, and the line that begins VBlank. -/
theorem witness_ModeTransitions_DisplayRequests :
    (lit 2 1 76).displayRuns ∧ (lit 2 1 76).display.mode = 2 ∧ (lit 2 1 76).display.modeClock + 4 = 80 ∧
      (lit 3 1 168).display.mode = 3 ∧ (lit 3 1 168).display.modeClock + 4 = 172 ∧
      (lit 0 143 200).display.mode = 0 ∧ (lit 0 143 200).display.modeClock + 4 = 204 ∧
      (lit 0 143 200).display.ly + 1 = 144 ∧ (lit 0 142 200).display.ly + 1 ≠ 144 ∧
      (lit 1 144 451).display.modeClock + 4 < modeThreshold (lit 1 144 451).display.mode :=
  ⟨.inr (by decide), by decide⟩

/-- The source bits of `STAT` set, one for each clause. -/
theorem witness_ModeTransitions_sources :
    (0x08 : Byte).getLsbD 3 = true ∧ (0x10 : Byte).getLsbD 4 = true ∧ (0x20 : Byte).getLsbD 5 = true := by decide

/-- The last line of VBlank and the one before it, and a display held. -/
theorem witness_VBlankLinesAndHold :
    (lit 1 153 452).displayRuns ∧ (lit 1 153 452).display.mode = 1 ∧ (lit 1 153 452).display.modeClock + 4 = 456 ∧
      (lit 1 153 452).display.ly + 1 = 154 ∧ (lit 1 152 452).display.ly + 1 ≠ 154 ∧ ¬ State.reset.displayRuns := by
  refine ⟨.inr (by decide), by decide, by decide, by decide, by decide, ?_⟩
  rintro (h | h) <;> exact absurd h (by decide)

/-- A transfer pending from WRAM, all of whose source lies outside the audio range, and none pending. -/
theorem witness_OamTransfer :
    (State.reset.busWrite 0xFF46 0xC1).display.dmaPending = true ∧ State.reset.display.dmaPending = false ∧
      ∀ i, i < 160 → region (BitVec.ofNat 16 (0xC1 * 256 + i)) ≠ .audio := by
  refine ⟨by decide, by decide, fun i hi h => ?_⟩
  have hn : (BitVec.ofNat 16 (0xC1 * 256 + i)).toNat = 0xC1 * 256 + i := by
    rw [BitVec.toNat_ofNat]
    omega
  rw [region_wram (by omega) (by omega)] at h
  cases h

theorem witness_InstructionsLeaveTime : ∃ t, exec (.ldh_atN8_a 0x04) State.reset = .next t := ⟨_, rfl⟩

theorem witness_EveryStepCompletes_LoadedNeverChanges : State.reset.fault = none ∧ ∃ t, step State.reset = .next t :=
  ⟨by decide, nextOf (by decide)⟩

theorem witness_StepCost : ∃ t, step State.reset = .next t ∧ t.fault = none := by
  have h : stepTo State.reset (fun t => t.fault.isNone) = true := by decide
  unfold stepTo at h
  cases hs : step State.reset <;> simp_all

/-- An address of each of the three classes of reset contents. -/
theorem witness_ResetValues :
    region 0xC000 ≠ .audio ∧ region 0xC000 ≠ .cartRam ∧ region 0xC000 ≠ .joypad ∧ region 0xBFFF = .cartRam ∧
      region 0xFF00 = .joypad := by
  decide

/-- A cartridge with RAM and a firmware image, and contents for it. -/
theorem witness_InvAtReset :
    let p := { Params.default with cartType := 0x03, ramSizeCode := 0x02, bootRom := ⟨[(0xFF, 0x50)]⟩ }
    p.wellFormed = true ∧ InitImages.wellFormed p { InitImages.default with cartRam := ⟨[(0x1FFF, 0x01)]⟩ } = true := by
  decide

/-- A state in the middle of a frame, with flags, WRAM, a selected bank and a running timer. -/
def midFrame : State :=
  { cart 0x03 0x02 0x20000 [1] 0xB0 with
    regs := { r0 with f := 0xB0, sp := 0xDFF0, pc := 0xC000 }
    bootActive := false
    wram := ⟨[(0, 0x3C), (0x1FFF, 0x01)]⟩
    mbc := .type1 ⟨7, 1, 0, true⟩
    display := { (lit 3 143 171).display with stat := 0x7B }
    timer := ⟨0xFF, 0xFF, 0x80, 5, 255, 15⟩ }

theorem witness_StepKeepsInv : midFrame.Inv ∧ ∃ t, step midFrame = .next t :=
  ⟨by constructor <;> decide, nextOf (by decide)⟩

end Sys2Proof.Tests
end

section
/-! What no instruction moves: the peripherals' time, the buttons, the total and the parameters. -/

namespace Sys2Proof.Machine

/-- What only the updates at the end of a step may change stands in `t` as in `s`, the divider's clock left aside. -/
structure State.SameTime (s t : State) : Prop where
  ly : t.display.ly = s.display.ly
  status : t.display.stat &&& 0x07 = s.display.stat &&& 0x07
  modeClock : t.display.modeClock = s.display.modeClock
  dmaBudget : t.display.dmaBudget = s.display.dmaBudget
  timaClock : t.timer.timaClock = s.timer.timaClock
  dir : t.joypad.dir = s.joypad.dir
  act : t.joypad.act = s.joypad.act
  total : t.totalCycles = s.totalCycles
  params : t.params = s.params

theorem State.SameTime.refl (s : State) : s.SameTime s := by constructor <;> rfl

theorem State.SameTime.trans {s t u : State} (h : s.SameTime t) (h' : t.SameTime u) : s.SameTime u where
  ly := h'.ly.trans h.ly
  status := h'.status.trans h.status
  modeClock := h'.modeClock.trans h.modeClock
  dmaBudget := h'.dmaBudget.trans h.dmaBudget
  timaClock := h'.timaClock.trans h.timaClock
  dir := h'.dir.trans h.dir
  act := h'.act.trans h.act
  total := h'.total.trans h.total
  params := h'.params.trans h.params

section
variable (s : State) (x : Word) (v : Byte)

/-- Software cannot write LY, STAT's status bits, the mode clock or the transfer budget (rules R302, R304, D22). -/
theorem State.busWrite_displayTime :
    (s.busWrite x v).display.ly = s.display.ly ∧
      (s.busWrite x v).display.stat &&& 0x07 = s.display.stat &&& 0x07 ∧
      (s.busWrite x v).display.modeClock = s.display.modeClock ∧
      (s.busWrite x v).display.dmaBudget = s.display.dmaBudget := by
  obtain ⟨r, -, e⟩ | ⟨k, -, e⟩ | ⟨k, -, e⟩ | e := s.busWrite_display x v
  · rw [e]
    exact ⟨Display.writeReg_ly _ r v, Display.writeReg_stat_low _ r v, Display.writeReg_modeClock _ r v,
      Display.writeReg_dmaBudget _ r v⟩
  all_goals rw [e]; exact ⟨rfl, rfl, rfl, rfl⟩

theorem State.busWrite_timaClock : (s.busWrite x v).timer.timaClock = s.timer.timaClock := by
  obtain ⟨r, -, e⟩ | e := s.busWrite_timer x v
  · rw [e, Timer.write_timaClock]
  · rw [e]

/-- A write to JOYP selects the groups and presses no button (rule R417). -/
theorem State.busWrite_buttons :
    (s.busWrite x v).joypad.dir = s.joypad.dir ∧ (s.busWrite x v).joypad.act = s.joypad.act := by
  obtain ⟨-, e⟩ | e := s.busWrite_joypad x v <;> rw [e] <;> exact ⟨rfl, rfl⟩

theorem State.sameTime_busWrite : s.SameTime (s.busWrite x v) := by
  obtain ⟨ly, status, clock, budget⟩ := s.busWrite_displayTime x v
  obtain ⟨dir, act⟩ := s.busWrite_buttons x v
  exact ⟨ly, status, clock, budget, s.busWrite_timaClock x v, dir, act, s.busWrite_totalCycles x v, s.busWrite_params x v⟩

end

/-- CPU updates do not touch what `SameTime` compares, and bus writes keep it. -/
theorem State.execKeeps_sameTime (s : State) : ExecKeeps s.SameTime where
  cpu _ _ _ _ _ _ h := ⟨h.ly, h.status, h.modeClock, h.dmaBudget, h.timaClock, h.dir, h.act, h.total, h.params⟩
  bus u x v h := h.trans (u.sameTime_busWrite x v)
  fatal _ _ _ h := ⟨h.ly, h.status, h.modeClock, h.dmaBudget, h.timaClock, h.dir, h.act, h.total, h.params⟩

/-- Settles O54: every instruction is CPU updates and bus writes, each of which keeps `State.SameTime`. -/
theorem instructionsLeaveTime : Obligations.InstructionsLeaveTime := by
  unfold Obligations.InstructionsLeaveTime
  intro i s t ht
  obtain ⟨ly, status, clock, budget, tima, dir, act, total, params⟩ :=
    s.execKeeps_sameTime.exec i (State.SameTime.refl s) ht
  exact ⟨ly, status, clock, budget, tima, dir, act, total, params⟩

end Sys2Proof.Machine
end

section
/-! The invariant at power-on (rules R8, R44). -/

namespace Sys2Proof.Machine

@[simp] theorem Mbc.initial_variant (v : Variant) : (Mbc.initial v).variant = v := by
  cases v <;> rfl

/-- The ROM bank selectors are 1 at power-on (rules R44, R354 (e)). -/
@[simp] theorem Mbc.initial_selectorsOk (v : Variant) : (Mbc.initial v).selectorsOk = true := by
  cases v <;> rfl

/-- Reset is power-on with rule R8's defaults. -/
theorem State.resetWith_default : State.resetWith Params.default InitImages.default = State.reset := rfl

section
variable {p : Params} {im : InitImages}

theorem State.resetWith_cram_wf (h : im.cartRam.wf (ramSize p) = true) :
    (State.resetWith p im).cram.wf (ramSize p) = true := by
  unfold State.resetWith
  dsimp only
  split
  · exact Memory.wf_lowNibbles h
  · exact h

/-- A type 2 cartridge keeps the low nibbles of `CART_RAM_INIT` (rule R44). -/
theorem State.resetWith_cram_nibblesOnly (h : variantOf p.cartType = .type2) :
    (State.resetWith p im).cram.nibblesOnly = true := by
  unfold State.resetWith
  dsimp only
  rw [if_pos h]
  exact Memory.nibblesOnly_lowNibbles _

theorem State.resetWith_inv (hp : p.wellFormed = true) (him : im.wellFormed p = true) : (State.resetWith p im).Inv := by
  simp only [InitImages.wellFormed, Bool.and_eq_true] at him
  obtain ⟨⟨⟨⟨wram, hram⟩, vram⟩, oam⟩, cram⟩ := him
  exact {
    flags := (by decide : (0x00 : Byte) &&& 0x0F = 0)
    cost := rfl
    params := hp
    variant := Mbc.initial_variant _
    selectors := Mbc.initial_selectorsOk _
    wram := wram
    hram := hram
    vram := vram
    oam := oam
    cram := State.resetWith_cram_wf cram
    nibbles := fun h => State.resetWith_cram_nibblesOnly ((Mbc.initial_variant _).symm.trans h)
    stat := (by decide : (0x00 : Byte) &&& 0x80 = 0)
    line := rfl
    clock := (by decide : 0 < 204)
    div := (by decide : 0 < 256)
    tima := (by decide : 0 < 1024) }

end

/-- Settles O58: every power-on that rule R8 admits meets the invariant, and reset is the one at the defaults. -/
theorem invAtReset : Obligations.InvAtReset := by
  unfold Obligations.InvAtReset
  refine ⟨?_, fun p im hp him => State.resetWith_inv hp him⟩
  rw [← State.resetWith_default]
  exact State.resetWith_inv (by decide) (by decide)

end Sys2Proof.Machine
end

section
/-! How many bytes an instruction has (rules R100, R102): the length of the encoding by family, and for what the decoder reads. -/

namespace Sys2Proof

section
variable (r dst src : R8) (o : Opnd) (p : R16) (sp : StackPair) (cc : Cond) (op : AluOp) (rop : RotOp) (k : Fin 8) (n : Byte)
  (w : Word)

theorem encode_ldRegReg_length : (encode (Instr.ldRegReg dst src)).length = 1 := by
  cases dst <;> cases src <;> rfl
theorem encode_ldImm_length : (encode (Instr.ldImm o n)).length = 2 := by
  obtain ⟨_ | _⟩ | _ := o <;> rfl
theorem encode_ldRegMem_length : (encode (Instr.ldRegMem r)).length = 1 := by cases r <;> rfl
theorem encode_ldMemReg_length : (encode (Instr.ldMemReg r)).length = 1 := by cases r <;> rfl
theorem encode_ldPair_length : (encode (Instr.ldPair p w)).length = 3 := by cases p <;> rfl
theorem encode_push_length : (encode (Instr.push sp)).length = 1 := by cases sp <;> rfl
theorem encode_pop_length : (encode (Instr.pop sp)).length = 1 := by cases sp <;> rfl
theorem encode_alu_length : (encode (Instr.alu op o)).length = 1 := by
  obtain ⟨_ | _⟩ | _ := o <;> cases op <;> rfl
theorem encode_aluImm_length : (encode (Instr.aluImm op n)).length = 2 := by cases op <;> rfl
theorem encode_inc_length : (encode (Instr.inc o)).length = 1 := by obtain ⟨_ | _⟩ | _ := o <;> rfl
theorem encode_dec_length : (encode (Instr.dec o)).length = 1 := by obtain ⟨_ | _⟩ | _ := o <;> rfl
theorem encode_addHL_length : (encode (Instr.addHL p)).length = 1 := by cases p <;> rfl
theorem encode_incPair_length : (encode (Instr.incPair p)).length = 1 := by cases p <;> rfl
theorem encode_decPair_length : (encode (Instr.decPair p)).length = 1 := by cases p <;> rfl
theorem encode_rot_length : (encode (Instr.rot rop o)).length = 2 := by
  obtain ⟨_ | _⟩ | _ := o <;> cases rop <;> rfl
theorem encode_bit_length : (encode (Instr.bit k o)).length = 2 := by
  obtain ⟨_ | _⟩ | _ := o <;> fin_cases k <;> rfl
theorem encode_res_length : (encode (Instr.res k o)).length = 2 := by
  obtain ⟨_ | _⟩ | _ := o <;> fin_cases k <;> rfl
theorem encode_set_length : (encode (Instr.set k o)).length = 2 := by
  obtain ⟨_ | _⟩ | _ := o <;> fin_cases k <;> rfl
theorem encode_jrCond_length : (encode (Instr.jrCond cc n)).length = 2 := by cases cc <;> rfl
theorem encode_jpCond_length : (encode (Instr.jpCond cc w)).length = 3 := by cases cc <;> rfl
theorem encode_callCond_length : (encode (Instr.callCond cc w)).length = 3 := by cases cc <;> rfl
theorem encode_retCond_length : (encode (Instr.retCond cc)).length = 1 := by cases cc <;> rfl
theorem encode_rst_length : (encode (Instr.rst k)).length = 1 := by fin_cases k <;> rfl

end

/-- The instructions an entry of the primary map completes have the bytes its format says (rule R102). -/
def Entry.LengthOk : Entry → Prop
  | .op i => (encode i).length = 1
  | .imm8 f => ∀ n, (encode (f n)).length = 2
  | .imm16 f => ∀ w, (encode (f w)).length = 3
  | .extended => True

theorem primaryBlock0_lengthOk (op : Byte) : (primaryBlock0 op).LengthOk := by
  unfold primaryBlock0
  split
  case h_5 => exact encode_jrCond_length _
  case h_6 =>
    split
    · exact encode_addHL_length _
    · exact encode_ldPair_length _
  case h_15 =>
    split
    · exact encode_decPair_length _
    · exact encode_incPair_length _
  case h_16 => exact encode_inc_length _
  case h_17 => exact encode_dec_length _
  case h_18 => exact encode_ldImm_length _
  case h_2 | h_4 => exact fun _ => rfl
  all_goals exact rfl

theorem encode_primaryBlock1_length (op : Byte) : (encode (primaryBlock1 op)).length = 1 := by
  unfold primaryBlock1
  split
  · exact encode_ldRegReg_length _ _
  · exact encode_ldRegMem_length _
  · exact encode_ldMemReg_length _
  · rfl

theorem primaryBlock3_lengthOk (op : Byte) : (primaryBlock3 op).LengthOk := by
  unfold primaryBlock3
  split
  case h_5 => exact encode_retCond_length _
  case h_10 => exact encode_pop_length _
  case h_15 => exact encode_jpCond_length _
  case h_17 => exact trivial
  case h_28 => exact encode_callCond_length _
  case h_33 => exact encode_push_length _
  case h_34 => exact encode_aluImm_length _
  case h_35 => exact encode_rst_length _
  case h_1 | h_2 | h_3 | h_4 | h_12 | h_14 | h_16 | h_29 => exact fun _ => rfl
  all_goals exact rfl

theorem primary_lengthOk (op : Byte) : (primary op).LengthOk := by
  unfold primary
  split
  · exact primaryBlock0_lengthOk op
  · exact encode_primaryBlock1_length op
  · exact encode_alu_length _ _
  · exact primaryBlock3_lengthOk op

theorem encode_extended_length (op2 : Byte) : (encode (extended op2)).length = 2 := by
  unfold extended
  split
  · exact encode_rot_length _ _
  · exact encode_bit_length _ _
  · exact encode_res_length _ _
  · exact encode_set_length _ _

/-- Everything a successful decoding can have read, by the format of the first byte's entry (rule R102). -/
theorem decode_cases {bs rest : List Byte} {i : Instr} (h : decode bs = .ok (i, rest)) :
    ∃ op tail, bs = op :: tail ∧
      (primary op = .op i ∧ tail = rest ∨
        (∃ f n, primary op = .imm8 f ∧ tail = n :: rest ∧ i = f n) ∨
        (∃ f lo hi, primary op = .imm16 f ∧ tail = lo :: hi :: rest ∧ i = f (joinBytes hi lo)) ∨
        (∃ op2, primary op = .extended ∧ tail = op2 :: rest ∧ i = extended op2)) := by
  cases bs with
  | nil => cases h
  | cons op tail =>
    refine ⟨op, tail, rfl, ?_⟩
    unfold decode at h
    dsimp only at h
    cases hp : primary op with
    | op j =>
      rw [hp] at h
      cases h
      exact .inl ⟨rfl, rfl⟩
    | imm8 f =>
      rw [hp] at h
      match tail, h with
      | n :: _, h =>
        cases h
        exact .inr (.inl ⟨f, n, rfl, rfl, rfl⟩)
    | imm16 f =>
      rw [hp] at h
      match tail, h with
      | lo :: hi :: _, h =>
        cases h
        exact .inr (.inr (.inl ⟨f, lo, hi, rfl, rfl, rfl⟩))
    | extended =>
      rw [hp] at h
      match tail, h with
      | op2 :: _, h =>
        cases h
        exact .inr (.inr (.inr ⟨op2, rfl, rfl, rfl⟩))

/-- The decoder reads one byte at least. -/
theorem rest_length_lt_of_decode {bs rest : List Byte} {i : Instr} (h : decode bs = .ok (i, rest)) :
    rest.length < bs.length := by
  obtain ⟨op, tail, rfl, ⟨-, rfl⟩ | ⟨f, n, -, rfl, -⟩ | ⟨f, lo, hi, -, rfl, -⟩ | ⟨op2, -, rfl, -⟩⟩ := decode_cases h <;>
    simp only [List.length_cons] <;> omega

/-- The decoder reads as many bytes as the instruction's encoding has. -/
theorem encode_length_of_decode {bs rest : List Byte} {i : Instr} (h : decode bs = .ok (i, rest)) :
    (encode i).length + rest.length = bs.length := by
  obtain ⟨op, tail, rfl, hc⟩ := decode_cases h
  have hl := primary_lengthOk op
  obtain ⟨hp, rfl⟩ | ⟨f, n, hp, rfl, rfl⟩ | ⟨f, lo, hi, hp, rfl, rfl⟩ | ⟨op2, -, rfl, rfl⟩ := hc
  · rw [hp] at hl
    have h1 : (encode i).length = 1 := hl
    simp only [h1, List.length_cons]
    omega
  · rw [hp] at hl
    have h2 := hl n
    simp only [h2, List.length_cons]
    omega
  · rw [hp] at hl
    have h3 := hl (joinBytes hi lo)
    simp only [h3, List.length_cons]
    omega
  · simp only [encode_extended_length, List.length_cons]
    omega

end Sys2Proof
end

section
/-! The bytes a step fetches, and what it runs (rules R6, R89). -/

namespace Sys2Proof.Machine

/-- The state after fetching `n` bytes at PC. -/
def State.afterFetch (s : State) : Nat → State
  | 0 => s
  | n + 1 => (s.afterFetch n).fetch8.2

theorem State.fetch8_eq (s : State) :
    s.fetch8 =
      (s.memRead s.regs.pc, { s.afterRead s.regs.pc with regs := { s.regs with pc := s.regs.pc + 1 } }) := by
  simp [State.fetch8, State.setPC]

theorem State.afterFetch_regs (s : State) (n : Nat) :
    (s.afterFetch n).regs = { s.regs with pc := s.regs.pc + BitVec.ofNat 16 n } := by
  induction n with
  | zero => simp [State.afterFetch]
  | succ n ih =>
    have hpc : s.regs.pc + BitVec.ofNat 16 n + 1 = s.regs.pc + BitVec.ofNat 16 (n + 1) := by
      rw [BitVec.add_assoc, BitVec.ofNat_add]
      rfl
    simp only [State.afterFetch, State.fetch8_eq, ih, hpc]

/-- Outside the audio range a fetch moves PC only (rule R89). -/
theorem State.afterFetch_of_not_audio (s : State) (n : Nat)
    (h : ∀ k < n, region (s.regs.pc + BitVec.ofNat 16 k) ≠ .audio) :
    s.afterFetch n = { s with regs := (s.afterFetch n).regs } := by
  induction n with
  | zero => rfl
  | succ n ih =>
    have hs := ih fun k hk => h k (Nat.lt_succ_of_lt hk)
    have hpc : region (s.afterFetch n).regs.pc ≠ .audio := by
      rw [State.afterFetch_regs]
      exact h n (Nat.lt_succ_self n)
    simp only [State.afterFetch, State.fetch8_eq, State.afterRead_of_ne _ hpc]
    rw [hs]

/-- Of three bytes the decoder leaves two, one or none, and the instruction takes one, two or three fetches. -/
theorem State.afterFetch_encode_length {s : State} {i : Instr} {bs rest : List Byte} (hb : bs.length = 3)
    (h : decode bs = .ok (i, rest)) :
    rest.length = 2 ∧ s.afterFetch (encode i).length = s.afterFetch 1 ∨
      rest.length = 1 ∧ s.afterFetch (encode i).length = s.afterFetch 2 ∨
      rest.length = 0 ∧ s.afterFetch (encode i).length = s.afterFetch 3 := by
  have hl := encode_length_of_decode h
  have hlt := rest_length_lt_of_decode h
  have hn : rest.length = 2 ∧ (encode i).length = 1 ∨ rest.length = 1 ∧ (encode i).length = 2 ∨
      rest.length = 0 ∧ (encode i).length = 3 := by omega
  obtain ⟨hr, hn⟩ | ⟨hr, hn⟩ | ⟨hr, hn⟩ := hn <;> simp [hr, hn]

/-- A step fetches what the decoder reads from the bytes at PC, and no byte more. -/
theorem State.fetchInstr_of_decode {s : State} {i : Instr} {rest : List Byte}
    (h : decode [s.fetch8.1, (s.afterFetch 1).fetch8.1, (s.afterFetch 2).fetch8.1] = .ok (i, rest)) :
    s.fetchInstr = (i, s.afterFetch (encode i).length) := by
  have hl := encode_length_of_decode h
  obtain ⟨op, tail, e, h⟩ := decode_cases h
  cases e
  have hn : (encode i).length = 3 - rest.length := by
    simp only [List.length_cons, List.length_nil] at hl
    omega
  rw [hn]
  unfold State.fetchInstr
  dsimp only
  obtain ⟨hp, rfl⟩ | ⟨f, n, hp, e, rfl⟩ | ⟨f, lo, hi, hp, e, rfl⟩ | ⟨op2, hp, e, rfl⟩ := h
  · rw [hp]
    rfl
  all_goals
    cases e
    rw [hp]
    rfl

/-- A step that has begun and is not halted runs the instruction fetched; the updates follow unless it records the fault. -/
theorem stepBody_of_not_halted {s : State} (h : s.halted = false) :
    stepBody s =
      match exec s.fetchInstr.1 s.fetchInstr.2 with
      | .next t => if t.fault = none then .next t.finishStep else .next t
      | .fault r => .fault r
      | .refused r => .refused r := by
  unfold stepBody
  rw [if_neg (by simp [h])]
  cases exec s.fetchInstr.1 s.fetchInstr.2 with
  | next t => cases hf : t.fault <;> simp [hf]
  | fault r => rfl
  | refused r => rfl

theorem stepBody_of_halted {s : State} (h : s.halted = true) : stepBody s = .next (s.addCycles 4).finishStep :=
  if_pos h

/-- Settles O4, from what each part of a step does (`State.fetch8_eq`, `stepBody_of_halted`, `stepBody_of_not_halted`) and from
the agreement of the fetch with the decoder. -/
theorem stepRunsDecoded : Obligations.StepRunsDecoded := by
  unfold Obligations.StepRunsDecoded
  refine ⟨fun s => ⟨State.fetch8_eq s, fun h => ?_, fun rest h => ?_, fun n rest h => ?_, fun c => rfl⟩, fun s => ?_⟩
  · rw [State.hostTurn, h]
  · rw [State.hostTurn, h]
  · rw [State.hostTurn, h]
  dsimp only
  refine ⟨fun r hf => ?_, fun hf hh => ?_, fun i rest hf hh hd => ?_⟩
  · rw [step, hf]
  · rw [step, hf]
    exact stepBody_of_halted hh
  · refine ⟨s.beginStep.afterFetch (encode i).length, State.afterFetch_encode_length rfl hd,
      State.afterFetch_regs _ _, fun ha => State.afterFetch_of_not_audio _ _ fun k hk => ha ⟨k, ?_⟩, ?_⟩
    · have hl := encode_length_of_decode hd
      simp only [List.length_cons, List.length_nil] at hl
      omega
    · rw [step, hf]
      refine (stepBody_of_not_halted hh).trans ?_
      rw [State.fetchInstr_of_decode hd]
      rfl

end Sys2Proof.Machine
end

section
/-! Who writes F, IME and `halted` (rules R22, R25, R27, R28). -/

namespace Sys2Proof.Machine

open Sys2Proof.Laws

/-! What the shared operations leave of F, IME and `halted`. -/

section
variable (s : State) (o : Opnd) (src : Source) (a w : Word) (v : Byte)

@[simp] theorem State.afterRead_halted : (s.afterRead a).halted = s.halted := by
  obtain ⟨n, h⟩ := s.afterRead_eq a; rw [h]

@[simp] theorem State.afterReadOpnd_ime : (s.afterReadOpnd o).ime = s.ime := by
  cases o with
  | reg r => rfl
  | atHL => exact State.afterRead_ime s _

@[simp] theorem State.afterReadOpnd_halted : (s.afterReadOpnd o).halted = s.halted := by
  cases o with
  | reg r => rfl
  | atHL => exact State.afterRead_halted s _

@[simp] theorem State.afterReadSource_ime : (s.afterReadSource src).ime = s.ime := by
  cases src with
  | opnd o => exact State.afterReadOpnd_ime s o
  | imm n => rfl

@[simp] theorem State.afterReadSource_halted : (s.afterReadSource src).halted = s.halted := by
  cases src with
  | opnd o => exact State.afterReadOpnd_halted s o
  | imm n => rfl

@[simp] theorem State.writeOpnd_f : (s.writeOpnd o v).regs.f = s.regs.f := by
  cases o with
  | reg r => exact Regs.set_f s.regs r v
  | atHL => exact congrArg Regs.f (State.busWrite_regs s _ v)

@[simp] theorem State.writeOpnd_ime : (s.writeOpnd o v).ime = s.ime := by
  cases o with
  | reg r => rfl
  | atHL => exact State.busWrite_ime s _ v

@[simp] theorem State.writeOpnd_halted : (s.writeOpnd o v).halted = s.halted := by
  cases o with
  | reg r => rfl
  | atHL => exact State.busWrite_halted s _ v

@[simp] theorem State.push16_f : (s.push16 w).regs.f = s.regs.f := by rw [State.push16_eq]
@[simp] theorem State.push16_ime : (s.push16 w).ime = s.ime := by simp [State.push16_eq]
@[simp] theorem State.push16_halted : (s.push16 w).halted = s.halted := by simp [State.push16_eq]

@[simp] theorem State.pop16_f : s.pop16.2.regs.f = s.regs.f := by rw [State.pop16_eq]
@[simp] theorem State.pop16_ime : s.pop16.2.ime = s.ime := by simp [State.pop16_eq]
@[simp] theorem State.pop16_halted : s.pop16.2.halted = s.halted := by simp [State.pop16_eq]

end

/-- The flag byte of an accumulator operation is packed (rule R170). -/
theorem low_aluApply (op : AluOp) (a v f : Byte) : (aluApply op a v f).2 &&& 0x0F = 0 := by
  cases op <;> exact low_packFlags _ _ _ _

/-- `t` has the flags, IME and `halted` of `s`. -/
def State.SameControl (s t : State) : Prop := t.regs.f = s.regs.f ∧ t.ime = s.ime ∧ t.halted = s.halted

/-- `t` has IME and `halted` of `s`, and a flag byte whose low nibble is zero. -/
def State.FlagsOnly (s t : State) : Prop := t.regs.f &&& 0x0F = 0 ∧ t.ime = s.ime ∧ t.halted = s.halted

section
variable (s : State)

theorem State.sameControl_storeByte (ea : Word) (v : Byte) (n : Nat) : s.SameControl (storeByte ea v n s) := by
  simp [State.SameControl, storeByte_eq]

theorem State.sameControl_loadByte (dst : R8) (ea : Word) (n : Nat) : s.SameControl (loadByte dst ea n s) := by
  simp [State.SameControl, loadByte_eq]

theorem State.sameControl_jumpIf (cc : Cond) (a : Word) (m n : Nat) : s.SameControl (jumpIf cc a m n s) := by
  simp [State.SameControl, jumpIf_eq]

theorem State.sameControl_callTo (a : Word) (n : Nat) : s.SameControl (callTo a n s) := by
  simp [State.SameControl, callTo]

theorem State.sameControl_callIf (cc : Cond) (a : Word) : s.SameControl (callIf cc a s) := by
  unfold callIf
  split
  · exact s.sameControl_callTo a 24
  · exact ⟨rfl, rfl, rfl⟩

theorem State.sameControl_returnFromCall (n : Nat) : s.SameControl (returnFromCall n s) := by
  simp [State.SameControl, returnFromCall]

theorem State.sameControl_returnIf (cc : Cond) : s.SameControl (returnIf cc s) := by
  unfold returnIf
  split
  · exact s.sameControl_returnFromCall 20
  · exact ⟨rfl, rfl, rfl⟩

theorem State.flagsOnly_accumulate (op : AluOp) (src : Source) : s.FlagsOnly (accumulate op src s) :=
  ⟨low_aluApply _ _ _ _, by simp [accumulate_eq], by simp [accumulate_eq]⟩

theorem State.flagsOnly_rotateA (op : RotOp) : s.FlagsOnly (rotateA op s) := ⟨low_packFlags _ _ _ _, rfl, rfl⟩

end

theorem Instr.writesFlags_addHL (p : R16) : (Instr.addHL p).writesFlags := by
  have h : ∃ p', Instr.addHL p = Instr.addHL p' := ⟨p, rfl⟩
  simp only [Instr.writesFlags, h, true_or, or_true]

theorem Instr.writesFlags_rot (op : RotOp) (o : Opnd) : (Instr.rot op o).writesFlags := by
  have h : ∃ op' o', Instr.rot op o = Instr.rot op' o' := ⟨op, o, rfl⟩
  simp only [Instr.writesFlags, h, true_or, or_true]

theorem Instr.writesFlags_bit (b : Fin 8) (o : Opnd) : (Instr.bit b o).writesFlags := by
  have h : ∃ b' o', Instr.bit b o = Instr.bit b' o' := ⟨b, o, rfl⟩
  simp only [Instr.writesFlags, h, true_or, or_true]

/-- What an instruction may do to F, IME and `halted`: the rows of rule R25's table pack the flags, three instructions write
IME (rule R27) and one sets `halted` (rule R28); everything else is kept. -/
inductive ControlCase (i : Instr) (s t : State) : Prop where
  | same (h : s.SameControl t)
  | flags (hi : i.writesFlags) (h : s.FlagsOnly t)
  | ime (hi : i.writesIME) (hf : t.regs.f = s.regs.f) (hh : t.halted = s.halted)
  | halt (hi : i = .halt) (hf : t.regs.f = s.regs.f) (hm : t.ime = s.ime)

/-- Every instruction is of one of these kinds, by family. -/
theorem exec_controlCase {i : Instr} {s t : State} (h : exec i s = .next t) : ControlCase i s t := by
  cases i using instr_family_cases with
  | h_ldRegReg dst src =>
    rw [exec_ldRegReg] at h
    cases h
    exact .same (by simp [State.SameControl, ldRegReg])
  | h_ldImm o n =>
    rw [exec_ldImm] at h
    cases h
    exact .same (by simp [State.SameControl, ldOpndImm])
  | h_ldRegMem r => rw [exec_ldRegMem] at h; cases h; exact .same (s.sameControl_loadByte _ _ _)
  | h_ldMemReg r => rw [exec_ldMemReg] at h; cases h; exact .same (s.sameControl_storeByte _ _ _)
  | h_ldPair p w =>
    rw [exec_ldPair] at h
    cases h
    exact .same (by simp [State.SameControl, ldPairImm])
  | h_push p =>
    rw [exec_push] at h
    cases h
    exact .same (by simp [State.SameControl, pushPair])
  | h_pop p =>
    rw [exec_pop, popPair_eq] at h
    cases h
    cases p with
    | af => exact .flags (by simp [Instr.writesFlags, Instr.pop]) ⟨and_F0_and_0F _, rfl, State.pop16_halted s⟩
    | _ => exact .same ⟨rfl, rfl, State.pop16_halted s⟩
  | h_alu op o =>
    rw [exec_alu] at h
    cases h
    exact .flags (.inl ⟨op, o, rfl⟩) (s.flagsOnly_accumulate op _)
  | h_aluImm op n =>
    rw [exec_aluImm] at h
    cases h
    exact .flags (.inr (.inl ⟨op, n, rfl⟩)) (s.flagsOnly_accumulate op _)
  | h_inc o =>
    rw [exec_inc] at h
    cases h
    exact .flags (.inr (.inr (.inl ⟨o, rfl⟩))) ⟨low_packFlags _ _ _ _, by simp [incOpnd], by simp [incOpnd]⟩
  | h_dec o =>
    rw [exec_dec] at h
    cases h
    exact .flags (.inr (.inr (.inr (.inl ⟨o, rfl⟩)))) ⟨low_packFlags _ _ _ _, by simp [decOpnd], by simp [decOpnd]⟩
  | h_addHL p =>
    rw [exec_addHL] at h
    cases h
    exact .flags (Instr.writesFlags_addHL p) ⟨low_packFlags _ _ _ _, rfl, rfl⟩
  | h_incPair p =>
    rw [exec_incPair] at h
    cases h
    exact .same (by simp [State.SameControl, incPair])
  | h_decPair p =>
    rw [exec_decPair] at h
    cases h
    exact .same (by simp [State.SameControl, decPair])
  | h_rot op o =>
    rw [exec_rot] at h
    cases h
    exact .flags (Instr.writesFlags_rot op o) ⟨low_packFlags _ _ _ _, by simp [rotateOpnd], by simp [rotateOpnd]⟩
  | h_bit b o =>
    rw [exec_bit] at h
    cases h
    exact .flags (Instr.writesFlags_bit b o) ⟨low_packFlags _ _ _ _, by simp [testBit], by simp [testBit]⟩
  | h_res b o =>
    rw [exec_res] at h
    cases h
    exact .same (by simp [State.SameControl, resetBit])
  | h_set b o =>
    rw [exec_set] at h
    cases h
    exact .same (by simp [State.SameControl, setBit])
  | h_jrCond cc e => rw [exec_jrCond] at h; cases h; exact .same (s.sameControl_jumpIf _ _ _ _)
  | h_jpCond cc w => rw [exec_jpCond] at h; cases h; exact .same (s.sameControl_jumpIf _ _ _ _)
  | h_callCond cc w => rw [exec_callCond] at h; cases h; exact .same (s.sameControl_callIf _ _)
  | h_retCond cc => rw [exec_retCond] at h; cases h; exact .same (s.sameControl_returnIf _)
  | h_rst y => rw [exec_rst] at h; cases h; exact .same (s.sameControl_callTo _ _)
  | h_illegal u => rw [exec_illegal] at h; cases h; exact .same ⟨rfl, rfl, rfl⟩
  | h_call_n16 w => cases h; exact .same (s.sameControl_callTo _ _)
  | h_ret => cases h; exact .same (s.sameControl_returnFromCall _)
  | h_ld_atN16_sp w => cases h; exact .same (by simp [State.SameControl, storeSP, State.memWrite])
  | h_ld_atBC_a | h_ld_atDE_a | h_ldh_atN8_a n | h_ldh_atC_a | h_ld_atN16_a w =>
    cases h; exact .same (s.sameControl_storeByte _ _ _)
  | h_ld_a_atBC | h_ld_a_atDE | h_ldh_a_atN8 n | h_ldh_a_atC | h_ld_a_atN16 w =>
    cases h; exact .same (s.sameControl_loadByte _ _ _)
  | h_ld_atHLinc_a | h_ld_atHLdec_a => cases h; exact .same (s.sameControl_storeByte _ _ 8)
  | h_ld_a_atHLinc | h_ld_a_atHLdec => cases h; exact .same (s.sameControl_loadByte .a _ 8)
  | h_nop | h_stop | h_jr_e8 e | h_jp_n16 w | h_jp_hl | h_ld_sp_hl => cases h; exact .same ⟨rfl, rfl, rfl⟩
  | h_rlca | h_rrca | h_rla | h_rra =>
    cases h; exact .flags (by simp [Instr.writesFlags]) (s.flagsOnly_rotateA _)
  | h_daa | h_cpl | h_scf | h_ccf =>
    cases h; exact .flags (by simp [Instr.writesFlags]) ⟨low_packFlags _ _ _ _, rfl, rfl⟩
  | h_add_sp_e8 e | h_ld_hl_spE8 e =>
    cases h; exact .flags (by simp [Instr.writesFlags]) ⟨low_packFlags _ _ _ _, rfl, rfl⟩
  | h_reti => cases h; exact .ime (.inr (.inr rfl)) (State.pop16_f s) (State.pop16_halted s)
  | h_di => cases h; exact .ime (.inr (.inl rfl)) rfl rfl
  | h_ei => cases h; exact .ime (.inl rfl) rfl rfl
  | h_halt => cases h; exact .halt rfl rfl rfl

/-- Settles O38: an instruction is of one of the four kinds of `ControlCase`, and each kind leaves the rest alone. -/
theorem flagImeHaltWriters : Obligations.FlagImeHaltWriters := by
  unfold Obligations.FlagImeHaltWriters
  intro i s t h
  cases exec_controlCase h with
  | same h =>
    obtain ⟨hf, hm, hh⟩ := h
    exact ⟨fun _ => hf, fun _ => hm, fun _ => hh⟩
  | flags hi h =>
    obtain ⟨-, hm, hh⟩ := h
    exact ⟨fun hn => absurd hi hn, fun _ => hm, fun _ => hh⟩
  | ime hi hf hh => exact ⟨fun _ => hf, fun hn => absurd hi hn, fun _ => hh⟩
  | halt hi hf hm => exact ⟨fun _ => hf, fun _ => hm, fun hn => absurd hi hn⟩

/-! The low nibble of F along a step (rule R22). -/

/-- The low nibble of F is zero. -/
def State.FlagsOk (s : State) : Prop := s.regs.f &&& 0x0F = 0

/-- An instruction packs the flags or leaves F alone. -/
theorem exec_flagsOk {i : Instr} {s t : State} (hs : s.FlagsOk) (h : exec i s = .next t) : t.FlagsOk := by
  unfold State.FlagsOk at hs ⊢
  cases exec_controlCase h with
  | same h =>
    obtain ⟨hf, -, -⟩ := h
    rw [hf, hs]
  | flags hi h =>
    obtain ⟨hf, -, -⟩ := h
    exact hf
  | ime hi hf hh => rw [hf, hs]
  | halt hi hf hm => rw [hf, hs]

section
variable (s : State)

theorem State.enterInterrupt_f : s.enterInterrupt.regs.f = s.regs.f := by
  obtain ⟨n, h⟩ := (({ s with ime := false, halted := false } : State).push16 s.regs.pc).selectSource_eq
  simp [State.enterInterrupt, State.takeSource, h]

/-- Before the fetch a step does not touch F: the host's turn leaves the CPU alone, a dispatch moves PC and SP. -/
@[simp] theorem State.beginStep_f : s.beginStep.regs.f = s.regs.f := by
  obtain ⟨dir, act, intFlag, halted, inputs, h⟩ := s.hostTurn_eq
  unfold State.beginStep State.interruptDispatch
  rw [h]
  split
  · exact State.enterInterrupt_f _
  · rfl

@[simp] theorem State.fetchInstr_f : s.fetchInstr.2.regs.f = s.regs.f := by
  obtain ⟨pc, draws, h⟩ := s.fetchInstr_eq
  rw [h]

/-- The updates at the end of a step leave the registers alone. -/
@[simp] theorem State.finishStep_regs : s.finishStep.regs = s.regs := by
  obtain ⟨_, _, _, _, _, _, _, _, _, _, hd⟩ := s.displayUpdate_eq s.cycles
  obtain ⟨_, _, _, _, _, _, ht⟩ := (s.displayUpdate s.cycles).timerUpdate_eq s.cycles
  simp only [State.finishStep, State.audioUpdate, State.emit_regs, ht]
  rw [hd]

end

theorem step_flagsOk {s t : State} (hs : s.FlagsOk) (h : step s = .next t) : t.FlagsOk := by
  obtain ⟨-, ⟨-, rfl⟩ | ⟨-, u, hu, ht⟩⟩ := step_cases h
  · simpa [State.FlagsOk] using hs
  · have hu' : u.FlagsOk := exec_flagsOk (by simpa [State.FlagsOk] using hs) hu
    obtain ⟨-, rfl⟩ | ⟨-, rfl⟩ := ht
    · exact hu'
    · simpa [State.FlagsOk] using hu'

/-- Settles O39: reset has F = 0; an instruction packs the flags or leaves F alone; and no other part of a step writes F. -/
theorem flagsLowNibble : Obligations.FlagsLowNibble := by
  unfold Obligations.FlagsLowNibble
  exact ⟨by decide, fun _ _ _ => exec_flagsOk, fun _ _ => step_flagsOk⟩

end Sys2Proof.Machine
end

section
/-! How a step ends (rules R6, R30, R431), and what it never changes (rules R45, R350). -/

namespace Sys2Proof.Machine

/-! Completion. -/

/-- No arm of `exec` stops: each is a next state. -/
theorem exec_completes (i : Instr) (s : State) : ∃ t, exec i s = .next t := by
  cases i <;> exact ⟨_, rfl⟩

theorem stepBody_completes (s : State) : ∃ t, stepBody s = .next t := by
  cases hh : s.halted with
  | true => exact ⟨_, stepBody_of_halted hh⟩
  | false =>
    obtain ⟨u, hu⟩ := exec_completes s.fetchInstr.1 s.fetchInstr.2
    rw [stepBody_of_not_halted hh, hu]
    dsimp only
    split <;> exact ⟨_, rfl⟩

/-- Settles O35: no arm of `exec` stops, and `step` itself answers a fault only where one is recorded. -/
theorem everyStepCompletes : Obligations.EveryStepCompletes := by
  unfold Obligations.EveryStepCompletes
  refine ⟨exec_completes, fun s h => ?_, fun s r h => ?_⟩
  · obtain ⟨t, ht⟩ := stepBody_completes s.beginStep
    exact ⟨t, by rw [step, h, ht]⟩
  · rw [step, h]

/-! What is fixed at load. -/

/-- The variant is fixed: a bus write writes a register of the controller present. -/
theorem State.busWrite_variant (s : State) (x : Word) (v : Byte) : (s.busWrite x v).mbc.variant = s.mbc.variant := by
  obtain ⟨-, e⟩ | ⟨k, e⟩ | e := s.busWrite_mbc x v
  · rw [e, Mbc.control_variant]
  · rw [e, Mbc.setClock_variant]
  · rw [e]

/-- `t` has the parameters and the variant of `s`. -/
def State.SameLoad (s t : State) : Prop := t.params = s.params ∧ t.mbc.variant = s.mbc.variant

theorem State.sameLoad_hostTurn (s : State) : s.SameLoad s.hostTurn := by
  obtain ⟨_, _, _, _, _, e⟩ := s.hostTurn_eq
  rw [e]
  exact ⟨rfl, rfl⟩

theorem State.sameLoad_displayUpdate (s : State) (c : Nat) : s.SameLoad (s.displayUpdate c) := by
  obtain ⟨_, _, _, _, _, _, _, _, _, _, e⟩ := s.displayUpdate_eq c
  rw [e]
  exact ⟨rfl, rfl⟩

theorem State.sameLoad_timerUpdate (s : State) (c : Nat) : s.SameLoad (s.timerUpdate c) := by
  obtain ⟨_, _, _, _, _, _, e⟩ := s.timerUpdate_eq c
  rw [e]
  exact ⟨rfl, rfl⟩

theorem State.SameLoad.trans {s t u : State} (h : s.SameLoad t) (h' : t.SameLoad u) : s.SameLoad u :=
  ⟨h'.1.trans h.1, h'.2.trans h.2⟩

theorem State.stepKeeps_sameLoad (s : State) : StepKeeps s.SameLoad where
  cpu _ _ _ _ _ _ h := h
  bus u x v h := h.trans ⟨u.busWrite_params x v, u.busWrite_variant x v⟩
  fatal _ _ _ h := h
  host u h := h.trans u.sameLoad_hostTurn
  intFlag _ _ h := h
  display u c h := h.trans (u.sameLoad_displayUpdate c)
  timer u c h := h.trans (u.sameLoad_timerUpdate c)
  total _ _ _ h := h

/-- Settles O55: every part of a step keeps the parameters and the variant. -/
theorem loadedNeverChanges : Obligations.LoadedNeverChanges := by
  unfold Obligations.LoadedNeverChanges
  exact fun s _ h => s.stepKeeps_sameLoad.step ⟨rfl, rfl⟩ h

end Sys2Proof.Machine
end

section
/-! The invariant of the machine along a step: first the part that holds whatever a step costs, then the lines and the mode clock
of the display, for which a step must cost less than a mode lasts (rule R317). -/

namespace Sys2Proof.Machine

open Sys2Proof.Laws

/-- The part of `State.Inv` that every update keeps whatever the step costs: the parameters and the cartridge, the form of every
memory, STAT's top bit and the timer's clocks. -/
structure State.Formed (s : State) : Prop where
  params : s.params.wellFormed = true
  variant : s.mbc.variant = variantOf s.params.cartType
  selectors : s.mbc.selectorsOk = true
  wram : s.wram.wf 0x2000 = true
  hram : s.hram.wf 0x7F = true
  vram : s.display.vram.wf 0x2000 = true
  oam : s.display.oam.wf 0xA0 = true
  cram : s.cram.wf (ramSize s.params) = true
  nibbles : s.mbc.variant = .type2 → s.cram.nibblesOnly = true
  stat : s.display.stat &&& 0x80 = 0
  div : s.timer.divClock < 256
  tima : s.timer.timaClock < 1024

/-- The 512 cells of a type 2 cartridge (rules R352, R370). -/
theorem ramSize_type2 {p : Params} (h : variantOf p.cartType = .type2) : ramSize p = 512 := by
  unfold ramSize
  rw [h]

/-! A bus write. -/

section
variable {s : State} (x : Word) (v : Byte)

theorem State.busWrite_selectorsOk (h : s.mbc.selectorsOk = true) : (s.busWrite x v).mbc.selectorsOk = true := by
  obtain ⟨-, e⟩ | ⟨k, e⟩ | e := s.busWrite_mbc x v
  · rw [e]
    exact Mbc.control_selectorsOk _ _ v h
  · rw [e, Mbc.setClock_selectorsOk, h]
  · rw [e, h]

theorem State.busWrite_wram_wf (h : s.wram.wf 0x2000 = true) : (s.busWrite x v).wram.wf 0x2000 = true := by
  obtain ⟨k, hk, e⟩ | e := s.busWrite_wram x v
  · rw [e]
    exact Memory.wf_write h (region_wram_lt hk) v
  · rw [e, h]

theorem State.busWrite_hram_wf (h : s.hram.wf 0x7F = true) : (s.busWrite x v).hram.wf 0x7F = true := by
  obtain ⟨k, hk, e⟩ | e := s.busWrite_hram x v
  · rw [e]
    exact Memory.wf_write h (region_hram_lt hk) v
  · rw [e, h]

theorem State.busWrite_vram_wf (h : s.display.vram.wf 0x2000 = true) : (s.busWrite x v).display.vram.wf 0x2000 = true := by
  obtain ⟨r, -, e⟩ | ⟨k, hk, e⟩ | ⟨k, -, e⟩ | e := s.busWrite_display x v
  · rw [e, Display.writeReg_vram, h]
  · rw [e]
    exact Memory.wf_write h (region_vram_lt hk) v
  · rw [e]
    exact h
  · rw [e, h]

theorem State.busWrite_oam_wf (h : s.display.oam.wf 0xA0 = true) : (s.busWrite x v).display.oam.wf 0xA0 = true := by
  obtain ⟨r, -, e⟩ | ⟨k, -, e⟩ | ⟨k, hk, e⟩ | e := s.busWrite_display x v
  · rw [e, Display.writeReg_oam, h]
  · rw [e]
    exact h
  · rw [e]
    exact Memory.wf_write h (region_oam_lt hk) v
  · rw [e, h]

theorem State.busWrite_stat_high (h : s.display.stat &&& 0x80 = 0) : (s.busWrite x v).display.stat &&& 0x80 = 0 := by
  obtain ⟨r, -, e⟩ | ⟨k, -, e⟩ | ⟨k, -, e⟩ | e := s.busWrite_display x v
  · rw [e]
    exact Display.writeReg_stat_high _ r v h
  all_goals rw [e]; exact h

theorem State.busWrite_divClock_lt (h : s.timer.divClock < 256) : (s.busWrite x v).timer.divClock < 256 := by
  obtain ⟨r, -, e⟩ | e := s.busWrite_timer x v
  · rw [e]
    exact Timer.write_divClock_lt _ r v h
  · rwa [e]

/-- Cartridge RAM is written at a cell of it: a banked one, or one of the 512 of a type 2 cartridge. -/
theorem State.busWrite_cram_wf (hv : s.mbc.variant = variantOf s.params.cartType)
    (h : s.cram.wf (ramSize s.params) = true) : (s.busWrite x v).cram.wf (ramSize s.params) = true := by
  obtain ⟨i, hi, e⟩ | ⟨i, hi, e⟩ | e := s.busWrite_cram x v
  · rw [e]
    exact Memory.wf_write h (ramTarget_cell_lt hi) v
  · obtain ⟨hlt, h2⟩ := ramTarget_nibble hi
    rw [e]
    exact Memory.wf_write h (by rw [ramSize_type2 (hv.symm.trans h2)]; exact hlt) _
  · rw [e, h]

/-- A type 2 cartridge stores the low nibble of the byte written. -/
theorem State.busWrite_cram_nibblesOnly (h2 : s.mbc.variant = .type2) (h : s.cram.nibblesOnly = true) :
    (s.busWrite x v).cram.nibblesOnly = true := by
  obtain ⟨i, hi, -⟩ | ⟨i, -, e⟩ | e := s.busWrite_cram x v
  · exact absurd h2 (ramTarget_cell_variant hi)
  · rw [e]
    refine Memory.nibblesOnly_write h i ?_
    rw [BitVec.and_assoc]
    simp
  · rw [e, h]

theorem State.Formed.busWrite (h : s.Formed) : (s.busWrite x v).Formed where
  params := by rw [State.busWrite_params, h.params]
  variant := by rw [State.busWrite_variant, State.busWrite_params, h.variant]
  selectors := State.busWrite_selectorsOk x v h.selectors
  wram := State.busWrite_wram_wf x v h.wram
  hram := State.busWrite_hram_wf x v h.hram
  vram := State.busWrite_vram_wf x v h.vram
  oam := State.busWrite_oam_wf x v h.oam
  cram := by
    rw [State.busWrite_params]
    exact State.busWrite_cram_wf x v h.variant h.cram
  nibbles := by
    rw [State.busWrite_variant]
    exact fun h2 => State.busWrite_cram_nibblesOnly x v h2 (h.nibbles h2)
  stat := State.busWrite_stat_high x v h.stat
  div := State.busWrite_divClock_lt x v h.div
  tima := by
    rw [State.busWrite_timaClock]
    exact h.tima

end

/-! The updates at the end of a step. -/

section
variable {s : State}

/-- The transfer writes the 160 bytes of OAM (rule R320). -/
theorem State.dmaBytes_oam_wf (page : Byte) (h : s.display.oam.wf 0xA0 = true) :
    ∀ n, n ≤ 0xA0 → (State.dmaBytes page n s).display.oam.wf 0xA0 = true := by
  intro n
  induction n with
  | zero => exact fun _ => h
  | succ n ih =>
    intro hn
    obtain ⟨d, e⟩ := (State.dmaBytes page n s).dmaByte_eq page n
    rw [State.dmaBytes, e]
    exact Memory.wf_write (ih (by omega)) (by omega) _

theorem State.displayUpdate_oam_wf (c : Nat) (h : s.display.oam.wf 0xA0 = true) :
    (s.displayUpdate c).display.oam.wf 0xA0 = true := by
  obtain ⟨e, -⟩ := s.displayUpdate_transfer c
  rw [e, s.dmaPhase_oam c]
  split
  · exact State.dmaBytes_oam_wf _ h 160 (Nat.le_refl _)
  · exact h

theorem State.displayUpdate_stat_high (c : Nat) (h : s.display.stat &&& 0x80 = 0) :
    (s.displayUpdate c).display.stat &&& 0x80 = 0 := by
  have top (st : Byte) : st &&& 0x80 = st &&& 0xF8 &&& 0x80 := by
    rw [BitVec.and_assoc]
    simp
  rw [top, s.displayUpdate_stat c, ← top, h]

theorem State.Formed.displayUpdate (h : s.Formed) (c : Nat) : (s.displayUpdate c).Formed := by
  have oam := State.displayUpdate_oam_wf c h.oam
  have stat := State.displayUpdate_stat_high c h.stat
  obtain ⟨_, _, _, _, _, _, _, _, _, _, e⟩ := s.displayUpdate_eq c
  rw [e] at oam stat ⊢
  exact { h with oam, stat }

theorem timaPeriod_range (tac : BitVec 3) : 0 < timaPeriod tac ∧ timaPeriod tac ≤ 1024 := by
  revert tac
  decide

/-- The divider's clock keeps the remainder (rule R406). -/
theorem State.timerUpdate_divClock_lt (s : State) (c : Nat) : (s.timerUpdate c).timer.divClock < 256 := by
  have hlt : (s.divUpdate c).timer.divClock < 256 := Nat.mod_lt _ (by decide)
  unfold State.timerUpdate State.timaUpdate
  split
  · obtain ⟨_, _, _, e⟩ := State.timaCounts_eq _ _
    dsimp only
    rw [e]
    exact hlt
  · exact hlt

/-- The counter's clock keeps a remainder below the longest period (rules R403, R406). -/
theorem State.timerUpdate_timaClock_lt (c : Nat) (h : s.timer.timaClock < 1024) :
    (s.timerUpdate c).timer.timaClock < 1024 := by
  unfold State.timerUpdate State.timaUpdate
  split
  · obtain ⟨hpos, hle⟩ := timaPeriod_range (s.divUpdate c).timer.tac
    obtain ⟨_, _, _, e⟩ := State.timaCounts_eq _ _
    dsimp only
    rw [e]
    exact Nat.lt_of_lt_of_le (Nat.mod_lt _ hpos) hle
  · exact h

theorem State.Formed.timerUpdate (h : s.Formed) (c : Nat) : (s.timerUpdate c).Formed := by
  have div := s.timerUpdate_divClock_lt c
  have tima := State.timerUpdate_timaClock_lt c h.tima
  obtain ⟨_, _, _, _, _, _, e⟩ := s.timerUpdate_eq c
  rw [e] at div tima ⊢
  exact { h with div, tima }

theorem State.Formed.hostTurn (h : s.Formed) : s.hostTurn.Formed := by
  obtain ⟨_, _, _, _, _, e⟩ := s.hostTurn_eq
  rw [e]
  exact { h with }

end

theorem State.stepKeeps_formed : StepKeeps State.Formed where
  cpu _ _ _ _ _ _ h := { h with }
  bus _ x v h := h.busWrite x v
  fatal _ _ _ h := { h with }
  host _ h := h.hostTurn
  intFlag _ _ h := { h with }
  display _ c h := h.displayUpdate c
  timer _ c h := h.timerUpdate c
  total _ _ _ h := { h with }

/-! The lines and the mode clock (rules R304, R310 to R317). -/

/-- The line is one the mode occurs on, and the mode has not lasted its time yet. -/
def Display.InMode (d : Display) : Prop := lineOk d.mode d.ly = true ∧ d.modeClock < modeThreshold d.mode

theorem Display.inMode_setMode (d : Display) (m : BitVec 2) :
    (d.setMode m).InMode ↔ lineOk m d.ly = true ∧ d.modeClock < modeThreshold m := by
  unfold Display.InMode
  rw [Display.mode_setMode]
  rfl

theorem Display.inMode_setCoincidence (d : Display) (b : Bool) : (d.setCoincidence b).InMode ↔ d.InMode := by
  unfold Display.InMode
  rw [Display.mode_setCoincidence]
  rfl

/-- HBlank ends on a line of 0 to 143, the last of which begins VBlank (rule R314). -/
theorem lineOk_endHBlank {ly : Byte} (h : lineOk 0 ly = true) :
    lineOk (if ly + 1 = 144 then 1 else 2) (ly + 1) = true := by
  revert ly
  decide

/-- A VBlank line but the last is followed by another (rule R315). -/
theorem lineOk_endVBlankLine {ly : Byte} (h : lineOk 1 ly = true) (hn : ly + 1 ≠ 154) : lineOk 1 (ly + 1) = true := by
  revert ly
  decide

/-- What a step of at most 79 cycles exceeds the end of a mode by is less than any mode lasts (rule R317). -/
theorem excess_lt_modeThreshold {n c t : Nat} (m : BitVec 2) (hn : n < t) (hc : c ≤ 79) : n + c - t < modeThreshold m := by
  have shortest : ∀ m, 80 ≤ modeThreshold m := by decide
  have := shortest m
  omega

section
variable {s : State}

/-- No instruction touches the line, the mode or its clock: a bus write cannot (rules R302, R304). -/
theorem State.execKeeps_inMode : ExecKeeps (fun s => s.display.InMode) where
  cpu _ _ _ _ _ _ h := h
  bus u x v h := by
    obtain ⟨hly, hst, hclock, -⟩ := u.busWrite_displayTime x v
    unfold Display.InMode
    rw [hly, Display.mode_eq_of_stat hst, hclock]
    exact h
  fatal _ _ _ h := h

theorem State.inMode_beginStep (h : s.display.InMode) : s.beginStep.display.InMode := by
  obtain ⟨_, _, _, _, _, e⟩ := s.hostTurn_eq
  unfold State.beginStep State.interruptDispatch
  rw [e]
  split
  · rw [State.enterInterrupt_eq]
    exact State.execKeeps_inMode.bus _ _ _ (State.execKeeps_inMode.bus _ _ _ h)
  · exact h

/-- Either the mode goes on, with less than its time on the clock, or the next begins with what the step exceeds the end by. -/
theorem State.inMode_modeEval (h : s.display.InMode) {c : Nat} (hc : c ≤ 79) : (s.modeEval c).display.InMode := by
  obtain ⟨hline, hclock⟩ := h
  obtain ⟨e0, e1, e2, e3⟩ := s.modeEval_of_mode c
  have go_on {m : BitVec 2} (hm : s.display.mode = m) (hn : s.display.modeClock + c < modeThreshold m) :
      ({ s.display with modeClock := s.display.modeClock + c } : Display).InMode :=
    ⟨hline, by subst hm; exact hn⟩
  rcases mode_cases s.display.mode with hm | hm | hm | hm
  · rw [e0 hm]
    rw [hm] at hline hclock
    dsimp only
    split
    · rw [State.endHBlank_display, Display.inMode_setMode]
      exact ⟨lineOk_endHBlank hline, excess_lt_modeThreshold _ hclock hc⟩
    · exact go_on hm (Nat.lt_of_not_le ‹_›)
  · rw [e1 hm]
    rw [hm] at hline hclock
    dsimp only
    split
    · rw [State.endVBlankLine_display]
      split
      · rw [Display.inMode_setMode]
        exact ⟨rfl, excess_lt_modeThreshold _ hclock hc⟩
      · have hm' : ({ s.display with modeClock := s.display.modeClock + c - 456, ly := s.display.ly + 1 } : Display).mode = 1 :=
          hm
        unfold Display.InMode
        rw [hm']
        exact ⟨lineOk_endVBlankLine hline ‹_›, excess_lt_modeThreshold _ hclock hc⟩
    · exact go_on hm (Nat.lt_of_not_le ‹_›)
  · rw [e2 hm]
    rw [hm] at hline hclock
    dsimp only
    split
    · rw [State.endOamScan_display, Display.inMode_setMode]
      exact ⟨hline, excess_lt_modeThreshold _ hclock hc⟩
    · exact go_on hm (Nat.lt_of_not_le ‹_›)
  · rw [e3 hm]
    rw [hm] at hline hclock
    dsimp only
    split
    · rw [State.endVramScan_display, Display.inMode_setMode]
      exact ⟨hline, excess_lt_modeThreshold _ hclock hc⟩
    · exact go_on hm (Nat.lt_of_not_le ‹_›)

theorem State.inMode_displayUpdate (h : s.display.InMode) {c : Nat} (hc : c ≤ 79) : (s.displayUpdate c).display.InMode := by
  by_cases hr : s.displayRuns
  · have hd : (s.dmaPhase c).display.InMode := by
      obtain ⟨hst, hly, -, hclock, -⟩ := s.dmaPhase_leaves c
      unfold Display.InMode Display.mode
      rw [hst, hly, hclock]
      exact h
    rw [s.displayUpdate_of_runs c hr, State.coincidence_display, Display.inMode_setCoincidence]
    exact State.inMode_modeEval hd hc
  · rw [s.displayUpdate_of_held c hr, State.displayHeld, Display.inMode_setMode]
    exact ⟨rfl, Nat.zero_lt_succ 203⟩

/-- The timer and audio leave the display alone. -/
theorem State.finishStep_display (s : State) : s.finishStep.display = (s.displayUpdate s.cycles).display := by
  obtain ⟨_, _, _, _, _, _, e⟩ := (s.displayUpdate s.cycles).timerUpdate_eq s.cycles
  simp only [State.finishStep, State.audioUpdate, State.emit_display, e]

theorem State.inMode_finishStep (h : s.display.InMode) (hc : s.cycles ≤ 79) : s.finishStep.display.InMode := by
  rw [State.finishStep_display]
  exact State.inMode_displayUpdate h hc

end

/-! The cost of a step (rules R12, R310, R431). -/

section
variable (s : State)

theorem State.beginStep_fault : s.beginStep.fault = s.fault := by
  obtain ⟨_, _, _, _, _, e⟩ := s.hostTurn_eq
  unfold State.beginStep State.interruptDispatch
  rw [e]
  split
  · rw [State.enterInterrupt_eq]
    simp
  · rfl

/-- Before the fetch a step is charged for a dispatch at most. -/
theorem State.beginStep_cycles_le : s.beginStep.cycles ≤ s.params.intDispatchCycles := by
  obtain ⟨_, _, _, _, _, e⟩ := s.hostTurn_eq
  unfold State.beginStep State.interruptDispatch
  rw [e]
  split
  · rw [State.enterInterrupt_eq]
    simp
  · exact Nat.zero_le _

end

/-- How a step ends: with an unassigned opcode, which drops the cost, or with the updates, which are passed at most 24 cycles more
than a dispatch costs. What every instruction keeps, the part before the updates keeps. -/
theorem step_ends {s t : State} (h : step s = .next t) :
    ∃ u, (∀ P, ExecKeeps P → P s.beginStep → P u) ∧
      (t = u ∧ u.cycles = 0 ∨ t = u.finishStep ∧ u.cycles ≤ s.params.intDispatchCycles + 24) := by
  have hb := s.beginStep_cycles_le
  obtain ⟨hf, ⟨-, rfl⟩ | ⟨-, u, hu, ht⟩⟩ := step_cases h
  · refine ⟨s.beginStep.addCycles 4, fun P k => k.addCycles 4, .inr ⟨rfl, ?_⟩⟩
    rw [State.addCycles_cycles]
    omega
  obtain ⟨pc, draws, e⟩ := s.beginStep.fetchInstr_eq
  refine ⟨u, fun P k hP => k.exec _ (by rw [e]; exact k.cpu _ _ _ _ _ _ hP) hu, ?_⟩
  by_cases hi : ∃ i, s.beginStep.fetchInstr.1 = Instr.illegal i
  · obtain ⟨i, hi⟩ := hi
    rw [hi, exec_illegal] at hu
    cases hu
    obtain ⟨-, rfl⟩ | ⟨hn, -⟩ := ht
    · exact .inl ⟨rfl, rfl⟩
    · cases hn
  · have hi' : ∀ i, s.beginStep.fetchInstr.1 ≠ Instr.illegal i := fun i hn => hi ⟨i, hn⟩
    have hc := exec_cost _ hu hi'
    have hn : u.fault = none := by rw [exec_fault _ hu hi', e, s.beginStep_fault, hf]
    obtain ⟨hn', -⟩ | ⟨-, rfl⟩ := ht
    · exact absurd hn hn'
    · rw [e] at hc
      dsimp only at hc
      exact .inr ⟨rfl, by omega⟩

theorem dispatchCycles_le {p : Params} (h : p.wellFormed = true) : p.intDispatchCycles ≤ 55 := by
  simp only [Params.wellFormed, Params.dispatchCostOk, Bool.and_eq_true, decide_eq_true_eq] at h
  obtain ⟨-, hd⟩ := h
  exact hd

theorem State.Inv.formed {s : State} (h : s.Inv) : s.Formed := { h with }

/-- A step costs less than the shortest mode lasts, so the display stays in its modes; and the step has passed its cost on or
dropped it (rule R317). -/
theorem step_inMode {s t : State} (hs : s.display.InMode) (hp : s.params.wellFormed = true) (h : step s = .next t) :
    t.display.InMode ∧ t.cycles = 0 := by
  have hd := dispatchCycles_le hp
  obtain ⟨u, hk, ht⟩ := step_ends h
  have hu := hk _ State.execKeeps_inMode (State.inMode_beginStep hs)
  obtain ⟨rfl, hc⟩ | ⟨rfl, hc⟩ := ht
  · exact ⟨hu, hc⟩
  · exact ⟨State.inMode_finishStep hu (by omega), rfl⟩

/-- Settles O59: the flags by `step_flagsOk`, the display's lines and clock by `step_inMode`, which rests on the bound of a step's
cost, and the rest by `State.stepKeeps_formed`. -/
theorem stepKeepsInv : Obligations.StepKeepsInv := by
  unfold Obligations.StepKeepsInv
  intro s t hs h
  obtain ⟨⟨line, clock⟩, cost⟩ := step_inMode ⟨hs.line, hs.clock⟩ hs.params h
  exact { State.stepKeeps_formed.step hs.formed h with flags := step_flagsOk hs.flags h, cost, line, clock }

end Sys2Proof.Machine
end

section
/-! The registers of the devices as the bus reads and writes them (rules R309, R404, R416, R417), and reset (rule R44). -/

namespace Sys2Proof.Machine

/-! TAC and JOYP hold fields of the byte; every other register is read and written whole or masked. -/

/-- `TAC` reads as its three bits (rule R404). -/
theorem Timer.read_tac_toNat (t : Timer) : (t.read .tac).toNat = t.tac.toNat :=
  BitVec.toNat_setWidth_of_le (by decide)

theorem Timer.write_tac_eq (t : Timer) (v : Byte) : t.write .tac v = { t with tac := BitVec.ofNat 3 (v.toNat % 8) } :=
  congrArg (fun b => { t with tac := b }) (lowBits_eq v 3)

/-- A write to JOYP takes bits 5 and 4 (rule R417). -/
theorem Joypad.write_eq (j : Joypad) (v : Byte) : j.write v = { j with select := BitVec.ofNat 2 (v.toNat / 16) } := by
  have h : v.extractLsb' 4 2 = BitVec.ofNat 2 (v.toNat / 16) := by
    apply BitVec.eq_of_toNat_eq
    simp [Nat.shiftRight_eq_div_pow]
  rw [Joypad.write, h]

section
variable (j : Joypad)

/-- JOYP reads ones in bits 7 and 6 and the group selection in bits 5 and 4 (rule R416). -/
theorem Joypad.read_high : j.read.getLsbD 7 = true ∧ j.read.getLsbD 6 = true ∧
    j.read.getLsbD 5 = j.select.getLsbD 1 ∧ j.read.getLsbD 4 = j.select.getLsbD 0 := by
  simp only [Joypad.read, BitVec.getLsbD_append]
  exact ⟨rfl, rfl, rfl, rfl⟩

/-- A low bit of JOYP is 0 where a selected group has its button pressed (rule R416). -/
theorem Joypad.read_low {k : Nat} (hk : k < 4) : j.read.getLsbD k =
    !((!j.select.getLsbD 0 && j.dir.getLsbD k) || (!j.select.getLsbD 1 && j.act.getLsbD k)) := by
  have ones : ∀ k < 4, (0xF : BitVec 4).getLsbD k = true := by decide
  have group (b : Bool) (g : BitVec 4) : (if b = true then 0xF else ~~~ g).getLsbD k = !(!b && g.getLsbD k) := by
    cases b
    · simp [hk]
    · simpa using ones k hk
  unfold Joypad.read
  rw [BitVec.getLsbD_append, if_pos hk]
  simp only [BitVec.getLsbD_and, group]
  simp

end

/-- The audio range: a write is an event, a read a free value (rule R78). -/
theorem State.audio_access (s : State) {a : Word} (v : Byte) (h : region a = .audio) :
    s.busWrite a v = { s with events := s.events ++ [.audioWrite a v] } ∧
      s.busRead a = Config.audioByte s.draws ∧ s.afterRead a = { s with draws := s.draws + 1 } := by
  unfold State.busWrite State.busRead State.afterRead
  rw [h]
  exact ⟨rfl, rfl, rfl⟩

/-- Settles O44: at a fixed address the decoder answers the register by computation; the audio range goes by
`State.audio_access`, and the fields of TAC and JOYP by their lemmas. -/
theorem deviceRegisters : Obligations.DeviceRegisters := by
  unfold Obligations.DeviceRegisters
  intro s v
  have timer := congrArg (fun t => { s with timer := t }) (s.timer.write_tac_eq v)
  have joypad := congrArg (fun j => { s with joypad := j }) (s.joypad.write_eq v)
  obtain ⟨h7, h6, h5, h4⟩ := s.joypad.read_high
  refine ⟨rfl, rfl, rfl, s.timer.read_tac_toNat, rfl, rfl, rfl, timer, ?_⟩
  iterate 24 refine ⟨rfl, ?_⟩
  exact ⟨rfl, rfl, rfl, rfl, fun a h1 h2 => s.audio_access v (region_audio h1 h2), fun a h => s.afterRead_of_ne h, joypad,
    h7, h6, h5, h4, fun k hk => s.joypad.read_low hk⟩

/-! Reset. -/

/-- What the bus reads at reset: empty storage, registers at zero, no cartridge RAM and no button pressed (rule R44). -/
theorem State.busRead_reset (a : Word) (h : region a ≠ .audio) :
    State.reset.busRead a = if region a = .cartRam ∨ region a = .joypad then 0xFF else 0x00 := by
  unfold State.busRead
  cases hr : region a with
  | audio => exact absurd hr h
  | timer r => cases r <;> rfl
  | display r => cases r <;> rfl
  | _ => rfl

/-- Settles O57: the registers are those of `State.reset`, and what the bus reads is `State.busRead_reset`. -/
theorem resetValues : Obligations.ResetValues := by
  unfold Obligations.ResetValues
  refine ⟨rfl, rfl, rfl, rfl, rfl, rfl, rfl, rfl, rfl, fun a ha hc hj => ?_, fun a h => ?_, rfl, rfl, rfl, rfl, rfl, rfl, rfl⟩
  · rw [State.busRead_reset a ha, if_neg (not_or.2 ⟨hc, hj⟩)]
  · have ha : region a ≠ .audio := by
      intro ha
      rw [ha] at h
      simp at h
    rw [State.busRead_reset a ha, if_pos h]

end Sys2Proof.Machine
end

section
/-! Plain storage and its echo, addresses without an owner, and the boot overlay (rules R63, R66 to R71, R74, R79). -/

namespace Sys2Proof.Machine

/-! One access, by its owner. -/

section
variable (s : State) {a b : Word} (v : Byte) {k : Nat}

theorem State.wram_access (h : region a = .wram k) :
    s.busRead a = s.wram.read k ∧ s.busWrite a v = { s with wram := s.wram.write k v } := by
  unfold State.busRead State.busWrite
  rw [h]
  exact ⟨rfl, rfl⟩

theorem State.hram_access (h : region a = .hram k) :
    s.busRead a = s.hram.read k ∧ s.busWrite a v = { s with hram := s.hram.write k v } := by
  unfold State.busRead State.busWrite
  rw [h]
  exact ⟨rfl, rfl⟩

theorem State.vram_access (h : region a = .vram k) :
    s.busRead a = s.display.vram.read k ∧
      s.busWrite a v = { s with display := { s.display with vram := s.display.vram.write k v } } := by
  unfold State.busRead State.busWrite
  rw [h]
  exact ⟨rfl, rfl⟩

theorem State.oam_access (h : region a = .oam k) :
    s.busRead a = s.display.oam.read k ∧
      s.busWrite a v = { s with display := { s.display with oam := s.display.oam.write k v } } := by
  unfold State.busRead State.busWrite
  rw [h]
  exact ⟨rfl, rfl⟩

/-- Without an owner: the fixed default, and nothing (rule R79). -/
theorem State.unmapped_access (h : region a = .unmapped) :
    s.busRead a = s.params.unmappedReadValue ∧ s.busWrite a v = s := by
  unfold State.busRead State.busWrite
  rw [h]
  exact ⟨rfl, rfl⟩

/-- Two addresses of one RAM byte are read and written alike. -/
theorem State.ram_access_congr (hb : (region b).isRam = true) (h : region a = region b) :
    s.busRead a = s.busRead b ∧ s.busWrite a v = s.busWrite b v := by
  unfold State.busRead State.busWrite
  rw [h]
  cases hr : region b with
  | vram _ | wram _ | oam _ | hram _ => exact ⟨rfl, rfl⟩
  | _ => rw [hr] at hb; cases hb

end

/-! A read after a write to RAM. -/

section
variable (s : State) {x a : Word} (v : Byte)

theorem State.readsBack_of_isRam (h : (region x).isRam = true) : s.readsBack x := by
  unfold State.readsBack
  cases hr : region x with
  | vram _ | wram _ | oam _ | hram _ => trivial
  | _ => rw [hr] at h; cases h

/-- A write to RAM reaches one byte. -/
theorem State.outside_of_isRam (h : (region x).isRam = true) (ha : region a ≠ region x) : s.outside x a := by
  unfold State.outside
  cases hr : region x with
  | vram _ | wram _ | oam _ | hram _ =>
    rw [hr] at ha
    exact .inr ha
  | _ => rw [hr] at h; cases h

/-- Every address of the byte written reads it, and every other address reads as before. -/
theorem State.busRead_busWrite_ram (h : (region x).isRam = true) :
    (s.busWrite x v).busRead a = if region a = region x then v else s.busRead a := by
  split
  · rename_i ha
    rw [((s.busWrite x v).ram_access_congr v h ha).1]
    exact s.busRead_busWrite_same v (s.readsBack_of_isRam h)
  · rename_i ha
    exact s.busRead_busWrite_outside v (s.outside_of_isRam h ha)

end

/-- Settles O40: the decoder gives each range its memory, whose accesses are the `_access` lemmas; a read after a write is
`State.busRead_busWrite_ram`. -/
theorem ramReadsBack : Obligations.RamReadsBack := by
  unfold Obligations.RamReadsBack
  refine ⟨fun s a v => ⟨fun h1 h2 => ?_, fun h1 h2 => ?_, fun h1 h2 => ?_, fun h1 h2 => ?_⟩,
    fun s _ _ v h => s.busRead_busWrite_ram v h⟩
  · exact s.wram_access v (region_wram h1 h2)
  · exact s.hram_access v (region_hram h1 h2)
  · exact s.vram_access v (region_vram h1 h2)
  · exact s.oam_access v (region_oam h1 h2)

/-! The echo, and what no device owns. -/

section
variable {a : Word}

/-- The echo shows the byte of WRAM 0x2000 lower (rule R70). -/
theorem region_echo_eq (h1 : 0xE000 ≤ a.toNat) (h2 : a.toNat ≤ 0xFDFF) :
    region a = region (a - 0x2000) ∧ (region (a - 0x2000)).isRam = true := by
  have ha : (a - 0x2000).toNat = a.toNat - 0x2000 := by bv_omega
  have hw : region (a - 0x2000) = .wram (a.toNat - 0x2000 - 0xC000) := by
    rw [region_wram (by omega) (by omega), ha]
  rw [region_echo h1 h2, hw, Nat.sub_sub]
  exact ⟨rfl, rfl⟩

/-- The gaps of the register page, 0xFF50 left aside (rules R61, R79). -/
theorem ioRegion_unmapped {n : Nat}
    (h : 0xFF01 ≤ n ∧ n ≤ 0xFF03 ∨ 0xFF08 ≤ n ∧ n ≤ 0xFF0E ∨ 0xFF4C ≤ n ∧ n ≤ 0xFF4F ∨ 0xFF51 ≤ n ∧ n ≤ 0xFF7F) :
    ioRegion n = .unmapped := by
  simp (disch := omega) only [ioRegion, if_neg]

theorem region_unmapped (h : unmappedAddress a.toNat = true) : region a = .unmapped := by
  simp only [unmappedAddress, Bool.or_eq_true, Bool.and_eq_true, decide_eq_true_eq, or_assoc] at h
  rcases h with h | h
  · simp (disch := omega) only [region, if_neg, if_pos]
  · rw [region_io (by omega) (by omega), ioRegion_unmapped h]

end

/-- Settles O41: an echo address and the one 0x2000 lower are addresses of one byte, and the decoder answers `unmapped` for what
`unmappedAddress` lists; at 0xFF50 the read is by computation. -/
theorem echoAndUnmapped : Obligations.EchoAndUnmapped := by
  unfold Obligations.EchoAndUnmapped
  refine fun s a v => ⟨fun h1 h2 => ?_, fun h => s.unmapped_access v (region_unmapped h), rfl⟩
  obtain ⟨he, hram⟩ := region_echo_eq h1 h2
  exact s.ram_access_congr v hram he

/-! The boot overlay (rules R66, R67). -/

section
variable (s : State) (x : Word) (v : Byte)

/-- A write to 0xFF50 clears the overlay where bit 0 is set and does nothing else (rule R67). -/
theorem State.busWrite_bootLock : s.busWrite 0xFF50 v = { s with bootActive := s.bootActive && !v.getLsbD 0 } := by
  have h : s.busWrite 0xFF50 v = if v.getLsbD 0 = true then { s with bootActive := false } else s := rfl
  rw [h]
  cases v.getLsbD 0 <;> simp

theorem State.busWrite_bootActive :
    (s.busWrite x v).bootActive = (s.bootActive && !(decide (x = 0xFF50) && v.getLsbD 0)) := by
  by_cases hx : x = 0xFF50
  · subst hx
    rw [State.busWrite_bootLock]
    simp
  · rw [s.busWrite_bootActive_of_ne x v fun h => hx (region_bootLock_iff.1 h)]
    rw [decide_eq_false hx, Bool.false_and, Bool.not_false, Bool.and_true]

theorem State.hostTurn_bootActive : s.hostTurn.bootActive = s.bootActive := by
  obtain ⟨_, _, _, _, _, e⟩ := s.hostTurn_eq
  rw [e]

theorem State.timerUpdate_bootActive (c : Nat) : (s.timerUpdate c).bootActive = s.bootActive := by
  obtain ⟨_, _, _, _, _, _, e⟩ := s.timerUpdate_eq c
  rw [e]

theorem State.displayUpdate_bootActive (c : Nat) : (s.displayUpdate c).bootActive = s.bootActive := by
  obtain ⟨-, -, boot, -⟩ := s.displayUpdate_leaves c
  exact boot

end

/-- No part of a step brings the overlay back. -/
theorem State.stepKeeps_bootInactive : StepKeeps (fun s => s.bootActive = false) where
  cpu _ _ _ _ _ _ h := h
  bus s x v h := by rw [s.busWrite_bootActive x v, h, Bool.false_and]
  fatal _ _ _ h := h
  host s h := s.hostTurn_bootActive.trans h
  intFlag _ _ h := h
  display s c h := (s.displayUpdate_bootActive c).trans h
  timer s c h := (s.timerUpdate_bootActive c).trans h
  total _ _ _ h := h

/-- Settles O42: the read path is the definition of `State.memRead`, the writes are `State.busWrite_bootActive` and
`State.busWrite_bootLock`, and no part of a step sets the overlay. -/
theorem bootLock : Obligations.BootLock := by
  unfold Obligations.BootLock
  exact ⟨fun _ _ => rfl, fun s x v => ⟨s.busWrite_bootActive x v, s.busWrite_bootLock v⟩,
    fun _ _ h hb => State.stepKeeps_bootInactive.step hb h⟩

end Sys2Proof.Machine
end

section
/-! Decoding and encoding agree (rules R100 to R114): row by row of the opcode maps, and instruction by instruction. -/

namespace Sys2Proof

/-- The instruction an entry of the primary map completes: `n` is its 8-bit operand or second opcode, `w` its 16-bit operand. -/
def Entry.instr : Entry → Byte → Word → Instr
  | .op i, _, _ => i
  | .imm8 f, n, _ => f n
  | .imm16 f, _, w => f w
  | .extended, n, _ => Sys2Proof.extended n

/-- The bytes after the opcode byte, by the entry's format (rules R102, R109). -/
def Entry.operands : Entry → Byte → Word → List Byte
  | .op _, _, _ => []
  | .imm8 _, n, _ => [n]
  | .imm16 _, _, w => [loByte w, hiByte w]
  | .extended, n, _ => [n]

/-- The length of an instruction by the entry of its first byte (rule R100). -/
def Entry.length : Entry → Nat
  | .op _ => 1
  | .imm8 _ => 2
  | .imm16 _ => 3
  | .extended => 2

theorem Entry.length_range (e : Entry) : 1 ≤ e.length ∧ e.length ≤ 3 := by
  cases e <;> simp [Entry.length]

/-- The decoder reads an entry's operand bytes, and no byte more. -/
theorem decode_operands (op n : Byte) (w : Word) (rest : List Byte) :
    decode (op :: (primary op).operands n w ++ rest) = .ok ((primary op).instr n w, rest) := by
  cases h : primary op <;> simp [decode, h, Entry.operands, Entry.instr]

/-- The decoder reads nothing but an entry and its operand bytes. -/
theorem operands_of_decode {bs rest : List Byte} {i : Instr} (h : decode bs = .ok (i, rest)) :
    ∃ op n w, bs = op :: (primary op).operands n w ++ rest ∧ i = (primary op).instr n w := by
  obtain ⟨op, tail, rfl, ⟨hp, rfl⟩ | ⟨f, n, hp, rfl, rfl⟩ | ⟨f, lo, hi, hp, rfl, rfl⟩ | ⟨op2, hp, rfl, rfl⟩⟩ := decode_cases h
  · exact ⟨op, 0, 0, by rw [hp]; exact ⟨rfl, rfl⟩⟩
  · exact ⟨op, n, 0, by rw [hp]; exact ⟨rfl, rfl⟩⟩
  · exact ⟨op, 0, joinBytes hi lo, by simp [hp, Entry.operands, Entry.instr]⟩
  · exact ⟨op, op2, 0, by rw [hp]; exact ⟨rfl, rfl⟩⟩

/-- Three bytes hold a whole instruction, whatever they are. -/
theorem decode_three_bytes (b0 b1 b2 : Byte) (rest : List Byte) :
    decode (b0 :: b1 :: b2 :: rest) =
      .ok ((primary b0).instr b1 (joinBytes b2 b1), (b0 :: b1 :: b2 :: rest).drop (primary b0).length) := by
  cases h : primary b0 <;> simp [decode, h, Entry.length, Entry.instr]

/-! The rows of the maps, block by block. -/

theorem fieldX_append : ∀ (x : BitVec 2) (y z : BitVec 3), fieldX (x ++ y ++ z) = x := by decide
theorem fieldY_append : ∀ (x : BitVec 2) (y z : BitVec 3), fieldY (x ++ y ++ z) = y := by decide
theorem fieldZ_append : ∀ (x : BitVec 2) (y z : BitVec 3), fieldZ (x ++ y ++ z) = z := by decide

/-- A byte is its fields `x`, `y` and `z` (rule R101). -/
theorem exists_fields (op : Byte) : ∃ (x : BitVec 2) (y z : BitVec 3), op = x ++ y ++ z :=
  ⟨fieldX op, fieldY op, fieldZ op, by decide +revert⟩

theorem encode_rot_ofCode : ∀ y z : BitVec 3,
    encode (Instr.rot (RotOp.ofCode y) (Opnd.ofCode z)) = [0xCB, 0b00#2 ++ y ++ z] := by decide

theorem encode_bit_ofCode : ∀ y z : BitVec 3, encode (Instr.bit y.toFin (Opnd.ofCode z)) = [0xCB, 0b01#2 ++ y ++ z] := by
  decide

theorem encode_res_ofCode : ∀ y z : BitVec 3, encode (Instr.res y.toFin (Opnd.ofCode z)) = [0xCB, 0b10#2 ++ y ++ z] := by
  decide

theorem encode_set_ofCode : ∀ y z : BitVec 3, encode (Instr.set y.toFin (Opnd.ofCode z)) = [0xCB, 0b11#2 ++ y ++ z] := by
  decide

/-- The row of each second opcode is written with that opcode (rule R113). -/
theorem encode_extended (op2 : Byte) : encode (extended op2) = [0xCB, op2] := by
  obtain ⟨x, y, z, rfl⟩ := exists_fields op2
  rw [extended, fieldX_append, fieldY_append, fieldZ_append]
  fin_cases x
  · exact encode_rot_ofCode y z
  · exact encode_bit_ofCode y z
  · exact encode_res_ofCode y z
  · exact encode_set_ofCode y z

/-- What an entry completes is written with the byte `op` and the entry's operand bytes. -/
def Entry.WrittenWith (op : Byte) (e : Entry) : Prop :=
  ∀ n w, encode (e.instr n w) = op :: e.operands n w

theorem primaryBlock0_writtenWith (y z : BitVec 3) :
    (primaryBlock0 (0b00#2 ++ y ++ z)).WrittenWith (0b00#2 ++ y ++ z) := by
  intro n w
  fin_cases z <;> fin_cases y <;> rfl

theorem encode_primaryBlock1 : ∀ y z : BitVec 3,
    encode (primaryBlock1 (0b01#2 ++ y ++ z)) = [0b01#2 ++ y ++ z] := by decide

theorem encode_alu_ofCode : ∀ y z : BitVec 3,
    encode (Instr.alu (AluOp.ofCode y) (Opnd.ofCode z)) = [0b10#2 ++ y ++ z] := by decide

/-- The row of 0xCB (z = 3, y = 1, so the 26th in the order of z, then y) has the second opcode for its operand byte. -/
theorem primaryBlock3_writtenWith (y z : BitVec 3) :
    (primaryBlock3 (0b11#2 ++ y ++ z)).WrittenWith (0b11#2 ++ y ++ z) := by
  intro n w
  fin_cases z <;> fin_cases y
  on_goal 26 => exact encode_extended n
  all_goals rfl

/-- The row of each first byte is written with that byte (rule R112). -/
theorem primary_writtenWith (op : Byte) : (primary op).WrittenWith op := by
  obtain ⟨x, y, z, rfl⟩ := exists_fields op
  rw [primary, fieldX_append, fieldY_append, fieldZ_append]
  fin_cases x
  · exact primaryBlock0_writtenWith y z
  · exact fun _ _ => encode_primaryBlock1 y z
  · exact fun _ _ => encode_alu_ofCode y z
  · exact primaryBlock3_writtenWith y z

/-- The entry of an instruction's first byte yields that instruction: an instruction with a 16-bit operand has it put together
from its two bytes, and the bytes of every other instruction select it as they stand. -/
theorem decode_encode (i : Instr) (rest : List Byte) : decode (encode i ++ rest) = .ok (i, rest) := by
  cases i
  case ld_bc_n16 w | ld_de_n16 w | ld_hl_n16 w | ld_sp_n16 w | ld_atN16_sp w | ld_atN16_a w | ld_a_atN16 w |
      jp_n16 w | jp_nz_n16 w | jp_z_n16 w | jp_nc_n16 w | jp_c_n16 w |
      call_n16 w | call_nz_n16 w | call_z_n16 w | call_nc_n16 w | call_c_n16 w =>
    exact decode_operands _ 0 w rest
  all_goals rfl

/-- Settles O2: `decode_encode` instruction by instruction, and back by `primary_writtenWith` row by row, since the decoder reads
nothing but a row. -/
theorem decodeEncodeRoundTrip : Obligations.DecodeEncodeRoundTrip := by
  unfold Obligations.DecodeEncodeRoundTrip
  refine ⟨decode_encode, fun bytes i rest h => ?_⟩
  obtain ⟨op, n, w, rfl, rfl⟩ := operands_of_decode h
  rw [primary_writtenWith]

/-! The unassigned opcodes (rule R114). -/

theorem encode_illegal (u : Unassigned) : encode (Instr.illegal u) = [u.opcode] := by
  cases u <;> rfl

theorem decode_unassigned (u : Unassigned) (rest : List Byte) :
    decode (u.opcode :: rest) = .ok (Instr.illegal u, rest) := by
  have h := decode_encode (Instr.illegal u) rest
  rwa [encode_illegal] at h

theorem mem_unassignedOpcodes {b : Byte} : b ∈ Machine.unassignedOpcodes ↔ ∃ u : Unassigned, u.opcode = b := by
  constructor
  · intro h
    have he : Machine.unassignedOpcodes =
        [.xd3, .xdb, .xdd, .xe3, .xe4, .xeb, .xec, .xed, .xf4, .xfc, .xfd].map Unassigned.opcode := rfl
    rw [he, List.mem_map] at h
    obtain ⟨u, -, hu⟩ := h
    exact ⟨u, hu⟩
  · rintro ⟨u, rfl⟩
    cases u <;> decide

/-- Settles O3: the length is that of the first byte's entry; an unassigned row is one byte, so no second opcode has one. -/
theorem lengthsAndUnassigned : Obligations.LengthsAndUnassigned := by
  unfold Obligations.LengthsAndUnassigned
  refine ⟨⟨fun b => (primary b).length, fun b => (primary b).length_range, rfl, fun b0 b1 b2 rest =>
    ⟨_, decode_three_bytes b0 b1 b2 rest⟩⟩, fun b rest => ⟨fun h => ?_, fun ⟨u, _, hu⟩ => mem_unassignedOpcodes.2 ⟨u, hu⟩⟩,
    fun op2 u h => ?_⟩
  · obtain ⟨u, rfl⟩ := mem_unassignedOpcodes.1 h
    exact ⟨u, decode_unassigned u rest, rfl⟩
  · have he := encode_extended op2
    rw [h, encode_illegal] at he
    simp at he

/-- Settles O1: each word is the encoding of the instruction the maps give it, so it decodes to it by `decode_encode`. -/
theorem decodesSpecWords : Obligations.DecodesSpecWords := by
  unfold Obligations.DecodesSpecWords
  exact ⟨decode_encode .ld_b_c [], decode_encode .halt [], decode_encode (.ld_a_n8 0x7F) [],
    decode_encode (.ld_hl_n16 0x1234) [], decode_encode .sbc_a_atHL [], decode_encode (.cp_n8 0x40) [],
    decode_encode .push_af [], decode_encode (.jp_c_n16 0xC123) [], decode_encode .rst_28 [], decode_encode .illegal_d3 [],
    decode_encode .swap_a [], decode_encode .bit_6_atHL [], decode_encode .res_5_a [], decode_encode .set_1_e []⟩

end Sys2Proof
end

section
/-! What an unassigned opcode does, and the step that meets one (rules R281, R431, R432). -/

namespace Sys2Proof.Machine

/-- A step fetches the one byte of an unassigned opcode. -/
theorem State.fetchInstr_unassigned {s : State} {u : Unassigned} (h : s.memRead s.regs.pc = u.opcode) :
    s.fetchInstr = (Instr.illegal u, s.fetch8.2) := by
  have hd := decode_unassigned u [(s.afterFetch 1).fetch8.1, (s.afterFetch 2).fetch8.1]
  rw [← h] at hd
  have hf := State.fetchInstr_of_decode hd
  rwa [encode_illegal] at hf

/-- The fetch moves PC past the opcode byte and the fault puts it back. -/
theorem State.raiseInvalidOpcode_fetch8 (s : State) (op : Byte) :
    s.fetch8.2.raiseInvalidOpcode op =
      { s.afterRead s.regs.pc with fault := some (.invalidOpcode s.regs.pc op), cycles := 0 } := by
  simp [State.fetch8_eq, State.raiseInvalidOpcode, State.setPC]

/-- Settles O34: the arm of `exec` is `State.raiseInvalidOpcode`, and a step with the fault recorded ends with its state. -/
theorem invalidOpcodes : Obligations.InvalidOpcodes := by
  unfold Obligations.InvalidOpcodes
  refine ⟨fun s u => ⟨encode_illegal u, _, Laws.exec_illegal u s, rfl, ?_⟩, fun s => ?_⟩
  · exact State.sameBytes_update s _ s.ime s.halted s.bootActive _ _ s.totalCycles s.events s.hostInputs
  dsimp only
  intro hf hh hop
  obtain ⟨u, hu⟩ := mem_unassignedOpcodes.1 hop
  rw [← hu, ← State.raiseInvalidOpcode_fetch8, step, hf]
  refine (stepBody_of_not_halted hh).trans ?_
  rw [State.fetchInstr_unassigned hu.symm, Laws.exec_illegal]
  rfl

end Sys2Proof.Machine
end

section
/-! The 8-bit loads (rules R129 to R148): how each class is written, and the shape in which a load or a store of one byte
completes. -/

namespace Sys2Proof

/-! Encodings of the classes (rules R102, R104). -/

theorem encode_ldRegReg (dst src : R8) : encode (Instr.ldRegReg dst src) = [0x40 ||| dst.code <<< 3 ||| src.code] := by
  cases dst <;> cases src <;> rfl

theorem encode_ldImm_reg (r : R8) (n : Byte) : encode (Instr.ldImm (.reg r) n) = [0x06 ||| r.code <<< 3, n] := by
  cases r <;> rfl

theorem encode_ldRegMem (r : R8) : encode (Instr.ldRegMem r) = [0x46 ||| r.code <<< 3] := by
  cases r <;> rfl

theorem encode_ldMemReg (r : R8) : encode (Instr.ldMemReg r) = [0x70 ||| r.code] := by
  cases r <;> rfl

namespace Machine

open Sys2Proof.Laws

/-! From an answer of exec in terms of `loadByte` or `storeByte` to a shape of completion. -/

section
variable {i : Instr} {s : State} {dst : R8} {ea : Word} {v : Byte} {n : Nat}

theorem readsAt_of_loadByte (h : exec i s = .next (loadByte dst ea n s)) :
    ReadsAt i s ea (s.regs.set dst (s.memRead ea)) n := by
  rw [loadByte_eq] at h
  exact readsAt_of_exec h

theorem storesAt_of_storeByte (h : exec i s = .next (storeByte ea v n s)) : StoresAt i s ea v s.regs n := by
  rw [storeByte_eq] at h
  exact storesAt_of_exec h

/-- Writing HL after the load is one more update of the registers (rules R146, R148). -/
theorem readsAt_of_loadByte_setHL {w : Word} (h : exec i s = .next ((loadByte dst ea n s).setHL w)) :
    ReadsAt i s ea ((s.regs.set dst (s.memRead ea)).setHL w) n := by
  rw [loadByte_eq] at h
  exact readsAt_of_exec h

/-- Writing HL after the store leaves the store as it was (rules R145, R147). -/
theorem storesAt_of_storeByte_setHL {w : Word} (h : exec i s = .next ((storeByte ea v n s).setHL w)) :
    StoresAt i s ea v (s.regs.setHL w) n := by
  rw [storeByte_eq] at h
  exact storesAt_of_exec h

end

/-- Settles O5: each class is written as `encode_ldRegReg` and `encode_ldImm_reg` say, and runs one register update or one
store. -/
theorem loadRegisterAndImmediate : Obligations.LoadRegisterAndImmediate := by
  unfold Obligations.LoadRegisterAndImmediate
  refine fun s n => ⟨fun dst src => ⟨encode_ldRegReg dst src, ?_⟩, fun r => ⟨encode_ldImm_reg r n, ?_⟩, rfl, ?_⟩
  · exact registerOnly_of_exec (exec_ldRegReg dst src s)
  · exact registerOnly_of_exec (exec_ldImm (.reg r) n s)
  · exact storesAt_of_storeByte (exec_ldImm .atHL n s)

/-- Settles O6: each arm is a `loadByte` at the effective address; that of an `LDH` is rewritten by `highPage_eq`. -/
theorem loadFromMemory : Obligations.LoadFromMemory := by
  unfold Obligations.LoadFromMemory
  simp only [← highPage_eq]
  exact fun s n w => ⟨fun r => ⟨encode_ldRegMem r, readsAt_of_loadByte (exec_ldRegMem r s)⟩,
    rfl, readsAt_of_loadByte (dst := .a) rfl, rfl, readsAt_of_loadByte (dst := .a) rfl,
    rfl, readsAt_of_loadByte (dst := .a) rfl, rfl, readsAt_of_loadByte (dst := .a) rfl,
    rfl, readsAt_of_loadByte (dst := .a) rfl⟩

/-- Settles O7: each arm is a `storeByte` at the effective address; that of an `LDH` is rewritten by `highPage_eq`. -/
theorem storeToMemory : Obligations.StoreToMemory := by
  unfold Obligations.StoreToMemory
  simp only [← highPage_eq]
  exact fun s n w => ⟨fun r => ⟨encode_ldMemReg r, storesAt_of_storeByte (exec_ldMemReg r s)⟩,
    rfl, storesAt_of_storeByte rfl, rfl, storesAt_of_storeByte rfl, rfl, storesAt_of_storeByte rfl,
    rfl, storesAt_of_storeByte rfl, rfl, storesAt_of_storeByte rfl⟩

/-- Settles O8: each arm is a `storeByte` or a `loadByte` at the old HL, then a write of HL. -/
theorem loadStorePostModify : Obligations.LoadStorePostModify := by
  unfold Obligations.LoadStorePostModify
  exact fun s => ⟨rfl, storesAt_of_storeByte_setHL rfl, rfl, readsAt_of_loadByte_setHL (dst := .a) rfl,
    rfl, storesAt_of_storeByte_setHL rfl, rfl, readsAt_of_loadByte_setHL (dst := .a) rfl⟩

end Machine

end Sys2Proof
end

section
/-! The 16-bit loads and the stack (rules R154 to R161, R211): how each class is written, what each operation does, and
storage that reads back at two neighbouring addresses. -/

namespace Sys2Proof

/-! Encodings of the classes (rules R102, R105). -/

theorem encode_ldPair (p : R16) (w : Word) : encode (Instr.ldPair p w) = [0x01 ||| p.code <<< 4, loByte w, hiByte w] := by
  cases p <;> rfl

theorem encode_push (p : StackPair) : encode (Instr.push p) = [0xC5 ||| p.code <<< 4] := by
  cases p <;> rfl

theorem encode_pop (p : StackPair) : encode (Instr.pop p) = [0xC1 ||| p.code <<< 4] := by
  cases p <;> rfl

namespace Machine

open Sys2Proof.Laws

/-! The 16-bit loads (rules R155 to R157). -/

theorem registerOnly_ldPair (p : R16) (w : Word) (s : State) :
    RegisterOnly (Instr.ldPair p w) s (s.regs.setPair p w) 12 :=
  registerOnly_of_exec (exec_ldPair p w s)

theorem storeSP_eq (a : Word) (s : State) :
    storeSP a s =
      { (s.busWrite a (loByte s.regs.sp)).busWrite (a + 1) (hiByte s.regs.sp) with
        regs := s.regs, cycles := s.cycles + 20 } := by
  simp [storeSP, State.addCycles, State.memWrite]

/-- Settles O9: a pair is written as `registerOnly_ldPair` says, and SP takes HL by one register update. -/
theorem loadPairs : Obligations.LoadPairs := by
  unfold Obligations.LoadPairs
  exact fun s w => ⟨fun p => encode_ldPair p w, registerOnly_ldPair .bc w s, registerOnly_ldPair .de w s,
    registerOnly_ldPair .hl w s, registerOnly_ldPair .sp w s, rfl, registerOnly_of_exec rfl⟩

/-- Settles O10: the arm is two bus writes (`storeSP_eq`); the first, where it is a control write, remaps no window the
second could reach (`region_rom_succ`). -/
theorem storeStackPointer : Obligations.StoreStackPointer := by
  unfold Obligations.StoreStackPointer
  refine fun s w => ⟨rfl, _, congrArg Host.Outcome.next (storeSP_eq w s), rfl, ?_⟩
  exact State.sameBytesBut_of_sameBytes (State.sameBytesBut_busWrite_busWrite s w (w + 1) _ _ region_rom_succ)
    (State.sameBytes_update _ _ _ _ _ _ _ _ _ _)

/-! The sum of SP and a signed byte, and its carries (rules R158, R211). -/

theorem and_000F_toNat (w : Word) : (w &&& 0x000F).toNat = w.toNat % 16 := by
  rw [BitVec.toNat_and]
  exact Nat.and_two_pow_sub_one_eq_mod _ 4

theorem and_00FF_toNat (w : Word) : (w &&& 0x00FF).toNat = w.toNat % 256 := by
  rw [BitVec.toNat_and]
  exact Nat.and_two_pow_sub_one_eq_mod _ 8

theorem spOffsetFlags_eq (sp : Word) (n : Byte) :
    spOffsetFlags sp n =
      packFlags false false (decide (sp.toNat % 16 + n.toNat % 16 > 15)) (decide (sp.toNat % 256 + n.toNat > 255)) := by
  rw [spOffsetFlags, and_000F_toNat, and_00FF_toNat, lowNibble_eq]

theorem add_sext16_eq (w : Word) (n : Byte) : w + sext16 n = BitVec.ofInt 16 ((w.toNat : Int) + n.toInt) := by
  rw [BitVec.ofInt_add, BitVec.ofInt_natCast, BitVec.ofNat_toNat, BitVec.setWidth_eq]
  rfl

/-- Settles O22: each arm is one register update; its flags are `spOffsetFlags_eq` and its sum is `add_sext16_eq`. -/
theorem stackPointerOffset : Obligations.StackPointerOffset := by
  unfold Obligations.StackPointerOffset
  dsimp only
  simp only [← add_sext16_eq]
  refine fun s e => ⟨rfl, rfl, spOffsetFlags s.regs.sp e, ?_, registerOnly_of_exec rfl, registerOnly_of_exec rfl⟩
  rw [spOffsetFlags_eq]
  exact flagsAre_packFlags _ _ _ _

/-! PUSH and POP (rules R159 to R161). -/

theorem pushesWord_push (p : StackPair) (s : State) :
    PushesWord (Instr.push p) s (s.regs.getStackPair p) s.regs.pc 16 := by
  apply pushesWord_of_exec
  rw [exec_push, pushPair_eq, State.push16_eq]
  rfl

theorem popsWord_pop (p : StackPair) (s : State) :
    PopsWord (Instr.pop p) s (s.regs.setStackPair p s.stackTop) s.ime 12 := by
  apply popsWord_of_exec
  rw [exec_pop, popPair_eq]

/-- Settles O11: `PUSH` is `pushesWord_push` and `POP` is `popsWord_pop`, at each pair. -/
theorem pushAndPop : Obligations.PushAndPop := by
  unfold Obligations.PushAndPop
  exact fun s => ⟨fun p => ⟨encode_push p, encode_pop p⟩,
    pushesWord_push .bc s, pushesWord_push .de s, pushesWord_push .hl s, pushesWord_push .af s,
    popsWord_pop .bc s, popsWord_pop .de s, popsWord_pop .hl s⟩

/-- Dropping the low nibble of a flag byte keeps its four flags (rules R22, R161). -/
theorem flagsAre_and_F0 (v : Byte) :
    FlagsAre (v &&& 0xF0) (v.getLsbD 7) (v.getLsbD 6) (v.getLsbD 5) (v.getLsbD 4) := by
  refine ⟨?_, ?_, ?_, ?_, and_F0_and_0F v⟩ <;> simp [flagZ, flagN, flagH, flagC]

/-- Settles O12: `POP AF` is `popsWord_pop` at AF, whose write masks the low byte (`Regs.setAF`). -/
theorem popAF : Obligations.PopAF := by
  unfold Obligations.PopAF
  exact fun s => ⟨rfl, _, flagsAre_and_F0 (loByte s.stackTop), popsWord_pop .af s⟩

/-! A pair read back after it is written. -/

theorem and_F0_of_low_zero {v : Byte} (h : v &&& 0x0F = 0) : v &&& 0xF0 = v :=
  calc v &&& 0xF0 = (v &&& 0xF0) ||| (v &&& 0x0F) := by rw [h]; simp
    _ = v &&& 0xFF := by rw [← BitVec.and_or_distrib_left]; rfl
    _ = v := BitVec.and_allOnes

theorem Regs.setStackPair_getStackPair {r : Regs} (p : StackPair) (h : r.f &&& 0x0F = 0) :
    r.setStackPair p (r.getStackPair p) = r := by
  cases p with
  | af =>
    simp only [Regs.setStackPair, Regs.getStackPair, Regs.setAF, Regs.af, hiByte_joinBytes, loByte_joinBytes,
      and_F0_of_low_zero h]
  | bc => simp [Regs.setStackPair, Regs.getStackPair, Regs.setBC, Regs.bc]
  | de => simp [Regs.setStackPair, Regs.getStackPair, Regs.setDE, Regs.de]
  | hl => simp [Regs.setStackPair, Regs.getStackPair, Regs.setHL, Regs.hl]

/-- Writing a pair of group 2 leaves SP to itself. -/
theorem Regs.setStackPair_setSP (r : Regs) (p : StackPair) (sp w : Word) :
    Regs.setStackPair { r with sp := sp } p w = { r.setStackPair p w with sp := sp } := by
  cases p <;> rfl

/-! Neighbouring addresses are different bytes of storage: every kind of storage begins at an even address and has an even
size, so the offset inside it has the parity of the address. -/

/-- The offset inside plain storage. -/
def Region.ramOffset : Region → Nat
  | .vram k | .wram k | .oam k | .hram k => k
  | _ => 0

theorem ioRegion_isRam (a : Nat) : (ioRegion a).isRam = false := by
  obtain ⟨hvram, hwram, hoam, hhram⟩ := ioRegion_range a rfl
  cases hr : ioRegion a with
  | vram k => exact absurd hr (hvram k)
  | wram k => exact absurd hr (hwram k)
  | oam k => exact absurd hr (hoam k)
  | hram k => exact absurd hr (hhram k)
  | _ => rfl

/-- An owner without storage contradicts `h`; the others subtract an even base from the address. -/
theorem region_ramOffset_parity {a : Word} (h : (region a).isRam = true) : (region a).ramOffset % 2 = a.toNat % 2 := by
  generalize hr : region a = r at h ⊢
  unfold region at hr
  dsimp only at hr
  repeat' split at hr
  all_goals subst hr
  all_goals first
    | exact Bool.noConfusion h
    | exact Bool.noConfusion ((ioRegion_isRam _).symm.trans h)
    | (rw [Region.ramOffset]; omega)

theorem toNat_succ_parity (x : Word) : (x + 1).toNat % 2 ≠ x.toNat % 2 := by
  bv_omega

theorem ramSizeOfCode_even (code : Byte) : ramSizeOfCode code % 2 = 0 := by
  unfold ramSizeOfCode
  split <;> rfl

theorem ramSize_even (p : Params) : ramSize p % 2 = 0 := by
  have h := ramSizeOfCode_even p.ramSizeCode
  unfold ramSize
  split
  · rfl
  · split
    · rfl
    · exact h
  · rfl
  · split
    · rfl
    · exact h

theorem bankedCell_parity {size bank a i : Nat} (hs : size % 2 = 0) (ha : 0xA000 ≤ a)
    (h : bankedCell size bank a = .cell i) : i % 2 = a % 2 := by
  unfold bankedCell at h
  split at h
  · cases h
  · rw [← RamTarget.cell.inj h, Nat.mod_mod_of_dvd _ (Nat.dvd_of_mod_eq_zero hs)]
    omega

theorem ramTarget_cell_parity {p : Params} {m : Mbc} {a i : Nat} (ha : 0xA000 ≤ a) (h : ramTarget p m a = .cell i) :
    i % 2 = a % 2 := by
  have banked : ∀ bank, bankedCell (ramSize p) bank a = .cell i → i % 2 = a % 2 :=
    fun _ => bankedCell_parity (ramSize_even p) ha
  unfold ramTarget at h
  split at h
  · cases h
  · split at h
    · exact banked _ h
    · cases h
  · split at h <;> cases h
  · split at h
    · split at h
      · exact banked _ h
      · split at h <;> cases h
    · cases h

theorem region_succ_ne_of_isRam {x : Word} (h : (region x).isRam = true) : region (x + 1) ≠ region x := by
  intro he
  have hx := region_ramOffset_parity h
  have hs := region_ramOffset_parity (he ▸ h)
  rw [he] at hs
  exact toNat_succ_parity x (hs.symm.trans hx)

/-- A write to storage that reads back does not reach the next address. -/
theorem State.outside_succ_of_readsBack {s : State} {x : Word} (h : s.readsBack x) : s.outside x (x + 1) := by
  have ram (hram : (region x).isRam = true) : s.outside x (x + 1) :=
    s.outside_of_isRam hram (region_succ_ne_of_isRam hram)
  unfold State.readsBack at h
  cases hr : region x with
  | vram _ | wram _ | oam _ | hram _ => exact ram (by rw [hr]; rfl)
  | intFlag =>
    rw [region_intFlag_iff.1 hr]
    exact .inr (by decide : region (0xFF0F + 1) ≠ .intFlag)
  | intEnable =>
    rw [region_intEnable_iff.1 hr]
    exact .inr (by decide : region (0xFFFF + 1) ≠ .intEnable)
  | cartRam =>
    rw [hr] at h
    obtain ⟨i, hi⟩ := h
    unfold State.outside
    rw [hr]
    refine .inr fun hs he => toNat_succ_parity x ?_
    have hx := ramTarget_cell_parity ((region_cartRam_iff x).1 hr).1 hi
    have hx' := ramTarget_cell_parity ((region_cartRam_iff (x + 1)).1 hs).1 (he.symm.trans hi)
    exact hx'.symm.trans hx
  | _ => rw [hr] at h; exact h.elim

/-! The round trip (rule R154). -/

theorem State.stackTop_of_storage {s : State} (hlo : region s.regs.sp ≠ .rom ∧ region s.regs.sp ≠ .audio)
    (hhi : region (s.regs.sp + 1) ≠ .rom) :
    s.stackTop = joinBytes (s.busRead (s.regs.sp + 1)) (s.busRead s.regs.sp) := by
  rw [State.stackTop, State.afterRead_of_ne s hlo.2, State.memRead_of_not_rom s hlo.1, State.memRead_of_not_rom s hhi]

/-- Two writes to neighbouring storage, the higher one first, both read back. -/
theorem State.busRead_busWrite_pair {s : State} {x : Word} (hi lo : Byte) (h1 : s.readsBack (x + 1)) (h2 : s.readsBack x) :
    ((s.busWrite (x + 1) hi).busWrite x lo).busRead (x + 1) = hi ∧
      ((s.busWrite (x + 1) hi).busWrite x lo).busRead x = lo := by
  have h2' : (s.busWrite (x + 1) hi).readsBack x := (s.readsBack_busWrite hi (State.readsBack_ne h1).1).2 h2
  exact ⟨((s.busWrite (x + 1) hi).busRead_busWrite_outside lo (State.outside_succ_of_readsBack h2')).trans
    (s.busRead_busWrite_same hi h1), (s.busWrite (x + 1) hi).busRead_busWrite_same lo h2'⟩

theorem State.push16_regs (s : State) (w : Word) : (s.push16 w).regs = { s.regs with sp := s.regs.sp - 2 } := by
  rw [State.push16_eq]

theorem State.busRead_push16 (s : State) (w a : Word) :
    (s.push16 w).busRead a = ((s.busWrite (s.regs.sp - 1) (hiByte w)).busWrite (s.regs.sp - 2) (loByte w)).busRead a := by
  rw [State.push16_eq]
  exact State.busRead_update _ _ _ _ _ _ _ _ _ _ _

/-- Charging cycles leaves the word on top of the stack. -/
theorem State.stackTop_addCycles (s : State) (n : Nat) : (s.addCycles n).stackTop = s.stackTop := by
  have after := State.afterRead_update s s.regs s.ime s.halted s.fault (s.cycles + n) s.totalCycles s.hostInputs s.regs.sp
  unfold State.stackTop State.addCycles
  dsimp only
  rw [after]
  exact congrArg₂ joinBytes
    (State.memRead_update (s.afterRead s.regs.sp) _ _ _ _ _ _ _ _ _) (State.memRead_update s _ _ _ _ _ _ _ _ _)

theorem pushPair_regs (p : StackPair) (s : State) : (pushPair p s).regs = { s.regs with sp := s.regs.sp - 2 } := by
  rw [pushPair_eq, State.push16_regs]

theorem popPair_regs (p : StackPair) (s : State) :
    (popPair p s).regs = { s.regs.setStackPair p s.stackTop with sp := s.regs.sp + 2 } := by
  rw [popPair_eq]

section
variable {s : State} (h1 : s.readsBack (s.regs.sp - 1)) (h2 : s.readsBack (s.regs.sp - 2))
include h1 h2

/-- The pushed word is on top of the stack: its two bytes read back at the new SP and the address after it. -/
theorem State.stackTop_push16 (w : Word) : (s.push16 w).stackTop = w := by
  have hsucc : s.regs.sp - 2 + 1 = s.regs.sp - 1 := by bv_omega
  rw [← hsucc] at h1
  obtain ⟨hhi, hlo⟩ := State.busRead_busWrite_pair (hiByte w) (loByte w) h1 h2
  have top := State.stackTop_of_storage (s := s.push16 w)
  rw [State.push16_regs, State.busRead_push16, State.busRead_push16, ← hsucc, hhi, hlo, joinBytes_hiByte_loByte] at top
  exact top (State.readsBack_ne h2) (State.readsBack_ne h1).1

/-- `PUSH rr` followed by `POP rr` restores every register. -/
theorem popPair_pushPair_regs (p : StackPair) (hf : s.regs.f &&& 0x0F = 0) :
    (popPair p (pushPair p s)).regs = s.regs := by
  have htop : (pushPair p s).stackTop = s.regs.getStackPair p :=
    (State.stackTop_addCycles _ 16).trans (State.stackTop_push16 h1 h2 _)
  rw [popPair_regs, htop, pushPair_regs, Regs.setStackPair_setSP, Regs.setStackPair_getStackPair p hf,
    BitVec.sub_add_cancel]

end

/-- Settles O13: the primitives are `State.push16_eq` and `State.pop16_eq`; the popped word is `State.stackTop_push16`, and
the registers are `popPair_pushPair_regs`. -/
theorem pushThenPop : Obligations.PushThenPop := by
  unfold Obligations.PushThenPop
  refine ⟨State.push16_eq, State.pop16_eq, fun s w h1 h2 => ?_,
    fun s p hf h1 h2 => ⟨_, _, exec_push p s, exec_pop p _, popPair_pushPair_regs h1 h2 p hf⟩⟩
  rw [State.pop16_eq, State.stackTop_push16 h1 h2, State.push16_regs, BitVec.sub_add_cancel]
  exact ⟨rfl, rfl⟩

end Machine

end Sys2Proof
end

section
/-! 8-bit arithmetic and logic (rules R170 to R202): how each class is written, the flag computations in integers, and what
`DAA` makes of a sum and of a difference. -/

namespace Sys2Proof

/-! Encodings of the classes (rules R102, R104, R107). -/

/-- The code of an accumulator operation in its place in the opcode, `y<<3` (rule R107). -/
def AluOp.placedCode : AluOp → Byte
  | .add => 0x00
  | .adc => 0x08
  | .sub => 0x10
  | .sbc => 0x18
  | .and => 0x20
  | .xor => 0x28
  | .or => 0x30
  | .cp => 0x38

open Machine in
theorem encode_aluOn (op : AluOp) (src : Source) : encode (aluOn op src) = aluBytes op.placedCode src := by
  match src with
  | .opnd (.reg r) => cases op <;> cases r <;> rfl
  | .opnd .atHL => cases op <;> rfl
  | .imm n => cases op <;> rfl

theorem encode_inc (o : Opnd) : encode (Instr.inc o) = [0x04 ||| o.code <<< 3] := by
  obtain ⟨_ | _⟩ | _ := o <;> rfl

theorem encode_dec (o : Opnd) : encode (Instr.dec o) = [0x05 ||| o.code <<< 3] := by
  obtain ⟨_ | _⟩ | _ := o <;> rfl

namespace Machine

open Sys2Proof.Laws

/-! The accumulator operations (rules R171 to R194). -/

theorem usesSource_aluOn {op : AluOp} {src : Source} {s : State} {a f : Byte}
    (h : aluApply op s.regs.a (s.readSource src) s.regs.f = (a, f)) :
    UsesSource (aluOn op src) s src { s.regs with a := a, f := f } 4 := by
  apply usesSource_of_exec
  rw [exec_aluOn, accumulate_eq, h]

/-- Settles O14: `ADD` is `add8_eq` without a carry and `ADC` is `add8_eq` with the one in F. -/
theorem addAdc : Obligations.AddAdc := by
  unfold Obligations.AddAdc
  intro s src
  dsimp only
  rw [← carryIn_eq]
  exact ⟨encode_aluOn .add src, encode_aluOn .adc src,
    ⟨_, flagsAre_packFlags _ _ _ _, usesSource_aluOn (add8_eq s.regs.a (s.readSource src) 0)⟩,
    ⟨_, flagsAre_packFlags _ _ _ _, usesSource_aluOn (add8_eq s.regs.a (s.readSource src) (carryIn s.regs.f))⟩⟩

/-- Without a borrow coming in, the difference is 0 exactly if the operands are equal (rule R170). -/
theorem sub8_zero_eq (a b : Byte) :
    sub8 a b 0 =
      (BitVec.ofInt 8 ((a.toNat : Int) - b.toNat),
        packFlags (decide (a.toNat = b.toNat)) true (decide (a.toNat % 16 < b.toNat % 16))
          (decide (a.toNat < b.toNat))) := by
  have hz : ((a.toNat : Int) - b.toNat) % 256 = 0 ↔ a.toNat = b.toNat := by
    have ha := a.isLt
    have hb := b.isLt
    omega
  simp [sub8_eq, hz]

/-- Settles O15: `SUB` and `CP` are `sub8_zero_eq`, `SBC` is `sub8_eq` with the carry in F. -/
theorem subSbcCp : Obligations.SubSbcCp := by
  unfold Obligations.SubSbcCp
  intro s src
  dsimp only
  rw [← carryIn_eq]
  have hsub := sub8_zero_eq s.regs.a (s.readSource src)
  have hcp : aluApply .cp s.regs.a (s.readSource src) s.regs.f = (s.regs.a, _) :=
    congrArg (fun r : Byte × Byte => (s.regs.a, r.2)) hsub
  exact ⟨encode_aluOn .sub src, encode_aluOn .sbc src, encode_aluOn .cp src,
    ⟨_, flagsAre_packFlags _ _ _ _, usesSource_aluOn hsub, usesSource_aluOn hcp⟩,
    ⟨_, flagsAre_packFlags _ _ _ _, usesSource_aluOn (sub8_eq s.regs.a (s.readSource src) (carryIn s.regs.f))⟩⟩

/-- An exclusive or is 0 exactly if the operands are equal (rules R186 to R188). -/
theorem aluApply_xor (a v f : Byte) :
    aluApply .xor a v f = (a ^^^ v, packFlags (decide (a = v)) false false false) := by
  have hz : (a ^^^ v == 0) = decide (a = v) := decide_eq_decide.2 BitVec.xor_eq_zero_iff
  rw [aluApply, hz]

/-- An or is 0 exactly if both operands are (rules R189 to R191). -/
theorem aluApply_or (a v f : Byte) :
    aluApply .or a v f = (a ||| v, packFlags (decide (a = 0 ∧ v = 0)) false false false) := by
  have hz : (a ||| v == 0) = decide (a = 0 ∧ v = 0) := decide_eq_decide.2 BitVec.or_eq_zero_iff
  rw [aluApply, hz]

/-- Settles O16: `AND` is its arm of `aluApply`; `XOR` and `OR` are `aluApply_xor` and `aluApply_or`. -/
theorem andXorOr : Obligations.AndXorOr := by
  unfold Obligations.AndXorOr
  exact fun s src => ⟨encode_aluOn .and src, encode_aluOn .xor src, encode_aluOn .or src,
    ⟨_, flagsAre_packFlags _ _ _ _, usesSource_aluOn rfl⟩,
    ⟨_, flagsAre_packFlags _ _ _ _, usesSource_aluOn (aluApply_xor s.regs.a (s.readSource src) s.regs.f)⟩,
    ⟨_, flagsAre_packFlags _ _ _ _, usesSource_aluOn (aluApply_or s.regs.a (s.readSource src) s.regs.f)⟩⟩

/-! INC and DEC (rules R195 to R198). -/

theorem and_0F_beq (v k : Byte) : (v &&& 0x0F == k) = decide (v.toNat % 16 = k.toNat) := by
  rw [beq_eq_decide, decide_eq_decide, ← BitVec.toNat_inj, and_0F_toNat]

/-- `INC` in integers (rule R195). -/
theorem inc8_eq (v f : Byte) :
    inc8 v f =
      (BitVec.ofNat 8 (v.toNat + 1),
        packFlags (decide (v.toNat = 255)) false (decide (v.toNat % 16 = 15)) (flagC f)) := by
  have hr : v + 1 = BitVec.ofNat 8 (v.toNat + 1) := by bv_omega
  have hz : (v.toNat + 1) % 256 = 0 ↔ v.toNat = 255 := by
    have hv := v.isLt
    omega
  simp only [inc8, hr, byte_beq_zero, and_0F_beq, BitVec.toNat_ofNat, hz]
  rfl

/-- `DEC` in integers (rule R197). -/
theorem dec8_eq (v f : Byte) :
    dec8 v f =
      (BitVec.ofNat 8 (v.toNat + 255),
        packFlags (decide (v.toNat = 1)) true (decide (v.toNat % 16 = 0)) (flagC f)) := by
  have hr : v - 1 = BitVec.ofNat 8 (v.toNat + 255) := by bv_omega
  have hz : (v.toNat + 255) % 256 = 0 ↔ v.toNat = 1 := by
    have hv := v.isLt
    omega
  simp only [dec8, hr, byte_beq_zero, and_0F_toNat, BitVec.toNat_ofNat, hz]

theorem modifiesOpnd_inc {o : Opnd} {s : State} {v f : Byte} (h : inc8 (s.readOpnd o) s.regs.f = (v, f)) :
    ModifiesOpnd (Instr.inc o) s o v f 4 := by
  apply modifiesOpnd_of_exec
  rw [exec_inc, incOpnd, h]

theorem modifiesOpnd_dec {o : Opnd} {s : State} {v f : Byte} (h : dec8 (s.readOpnd o) s.regs.f = (v, f)) :
    ModifiesOpnd (Instr.dec o) s o v f 4 := by
  apply modifiesOpnd_of_exec
  rw [exec_dec, decOpnd, h]

/-- Settles O17: the result and the flag byte are `inc8_eq` and `dec8_eq`, whose carry is the one in F. -/
theorem incDec8 : Obligations.IncDec8 := by
  unfold Obligations.IncDec8
  exact fun s o => ⟨encode_inc o, encode_dec o,
    ⟨_, flagsAre_packFlags _ _ _ _, modifiesOpnd_inc (inc8_eq (s.readOpnd o) s.regs.f)⟩,
    ⟨_, flagsAre_packFlags _ _ _ _, modifiesOpnd_dec (dec8_eq (s.readOpnd o) s.regs.f)⟩⟩

/-! DAA (rule R199). -/

/-- The correction of `DAA`: 0x06 where the low digit is corrected, 0x60 where the high one is. -/
def daaCorrection (low high : Bool) : Nat := (if low then 0x06 else 0x00) + (if high then 0x60 else 0x00)

/-- The number `a` with the correction added, or subtracted where `n` is 1, modulo 256. -/
def daaResult (n low high : Bool) (a : Nat) : Nat :=
  if n then (a + 256 - daaCorrection low high) % 256 else (a + daaCorrection low high) % 256

/-- `DAA` corrects the low digit. -/
def daaLow (a f : Byte) : Bool := flagH f || (!flagN f && decide (a.toNat % 16 > 0x09))

/-- `DAA` corrects the high digit. -/
def daaHigh (a f : Byte) : Bool := flagC f || (!flagN f && decide (a.toNat > 0x99))

theorem toNat_daaCorrection (low high : Bool) :
    ((if low then 0x06 else 0x00 : Byte) ||| (if high then 0x60 else 0x00)).toNat = daaCorrection low high := by
  cases low <;> cases high <;> rfl

theorem daaCorrection_lt (low high : Bool) : daaCorrection low high < 256 := by
  cases low <;> cases high <;> decide

theorem daaResult_lt (n low high : Bool) (a : Nat) : daaResult n low high a < 256 := by
  unfold daaResult
  split <;> omega

theorem correct_eq_daaResult (n low high : Bool) (a corr : Byte) (hc : corr.toNat = daaCorrection low high) :
    (if n then a - corr else a + corr) = BitVec.ofNat 8 (daaResult n low high a.toNat) := by
  have hlt := daaCorrection_lt low high
  apply BitVec.eq_of_toNat_eq
  rw [BitVec.toNat_ofNat, Nat.mod_eq_of_lt (daaResult_lt n low high _), daaResult, ← hc]
  cases n with
  | true =>
    simp only [if_true, BitVec.toNat_sub]
    omega
  | false => simp [BitVec.toNat_add]

/-- `DAA` in integers (rule R199). -/
theorem daa8_eq (a f : Byte) :
    daa8 a f =
      (BitVec.ofNat 8 (daaResult (flagN f) (daaLow a f) (daaHigh a f) a.toNat),
        packFlags (decide (daaResult (flagN f) (daaLow a f) (daaHigh a f) a.toNat = 0)) (flagN f) false (daaHigh a f)) := by
  have hlow : (flagH f || (!flagN f && decide (lowNibble a > 0x09))) = daaLow a f := by rw [daaLow, lowNibble_eq]
  have hhigh : (flagC f || (!flagN f && decide (a.toNat > 0x99))) = daaHigh a f := rfl
  have hcarry : (if daaHigh a f then true else flagC f) = daaHigh a f := by
    unfold daaHigh
    cases flagC f <;> simp
  simp only [daa8, hlow, hhigh, hcarry]
  rw [correct_eq_daaResult _ _ _ a _ (toNat_daaCorrection (daaLow a f) (daaHigh a f)), byte_beq_zero,
    BitVec.toNat_ofNat, Nat.mod_eq_of_lt (daaResult_lt _ _ _ _)]

theorem exec_daa_eq (s : State) :
    exec .daa s =
      .next { s with regs := { s.regs with a := (daa8 s.regs.a s.regs.f).1, f := (daa8 s.regs.a s.regs.f).2 },
                     cycles := s.cycles + 4 } := rfl

/-! Packed decimal sums and differences (rules R173, R179, R199). -/

/-- The number `x` is the packed decimal form of `v`: its two digits are the decimal digits of `v`. -/
def IsPacked (x v : Nat) : Prop := ∃ high low, high ≤ 9 ∧ low ≤ 9 ∧ x = 16 * high + low ∧ v = 10 * high + low

theorem isPacked_of_isBcd {b : Byte} (h : isBcd b = true) : IsPacked b.toNat (bcdValue b) := by
  rw [isBcd, Bool.and_eq_true, decide_eq_true_iff, decide_eq_true_iff] at h
  obtain ⟨hlow, hhigh⟩ := h
  exact ⟨_, _, hhigh, hlow, (Nat.div_add_mod _ 16).symm, by rw [bcdValue, Nat.mul_comm]⟩

theorem IsPacked.isBcd_ofNat {x v : Nat} (h : IsPacked x v) :
    isBcd (BitVec.ofNat 8 x) = true ∧ bcdValue (BitVec.ofNat 8 x) = v := by
  obtain ⟨high, low, hhigh, hlow, rfl, rfl⟩ := h
  have hdiv : (16 * high + low) % 2 ^ 8 / 16 = high := by omega
  have hmod : (16 * high + low) % 2 ^ 8 % 16 = low := by omega
  rw [isBcd, bcdValue, BitVec.toNat_ofNat, hdiv, hmod, Bool.and_eq_true, decide_eq_true_iff, decide_eq_true_iff]
  exact ⟨⟨hlow, hhigh⟩, by rw [Nat.mul_comm]⟩

section
variable {x y v w : Nat} (hx : IsPacked x v) (hy : IsPacked y w)
include hx hy

/-- A binary sum passes 0x99 exactly if the decimal one reaches 100. -/
theorem IsPacked.sum_gt_iff : x + y > 0x99 ↔ v + w ≥ 100 := by
  obtain ⟨xh, xl, _, _, rfl, rfl⟩ := hx
  obtain ⟨yh, yl, _, _, rfl, rfl⟩ := hy
  omega

theorem IsPacked.lt_iff : x < y ↔ v < w := by
  obtain ⟨xh, xl, _, _, rfl, rfl⟩ := hx
  obtain ⟨yh, yl, _, _, rfl, rfl⟩ := hy
  omega

/-- Each digit of a binary sum that passes 9 is brought back by adding 6 (rule R199). -/
theorem IsPacked.daaResult_sum :
    IsPacked (daaResult false (decide (x % 16 + y % 16 > 9)) (decide (x + y > 0x99)) (x + y)) ((v + w) % 100) := by
  obtain ⟨xh, xl, _, _, rfl, rfl⟩ := hx
  obtain ⟨yh, yl, _, _, rfl, rfl⟩ := hy
  have hxl : (16 * xh + xl) % 16 = xl := by omega
  have hyl : (16 * yh + yl) % 16 = yl := by omega
  rw [hxl, hyl]
  by_cases hlow : xl + yl > 9 <;> by_cases hhigh : 16 * xh + xl + (16 * yh + yl) > 0x99 <;>
    simp only [daaResult, daaCorrection, hlow, hhigh, decide_true, decide_false, if_true, if_false, Bool.false_eq_true]
  · exact ⟨xh + yh - 9, xl + yl - 10, by omega, by omega, by omega, by omega⟩
  · exact ⟨xh + yh + 1, xl + yl - 10, by omega, by omega, by omega, by omega⟩
  · exact ⟨xh + yh - 10, xl + yl, by omega, by omega, by omega, by omega⟩
  · exact ⟨xh + yh, xl + yl, by omega, by omega, by omega, by omega⟩

/-- Each digit of a binary difference that borrowed is brought back by subtracting 6 (rule R199). -/
theorem IsPacked.daaResult_difference :
    IsPacked (daaResult true (decide (x % 16 < y % 16)) (decide (x < y)) ((x + 256 - y) % 256)) ((v + 100 - w) % 100) := by
  obtain ⟨xh, xl, _, _, rfl, rfl⟩ := hx
  obtain ⟨yh, yl, _, _, rfl, rfl⟩ := hy
  have hxl : (16 * xh + xl) % 16 = xl := by omega
  have hyl : (16 * yh + yl) % 16 = yl := by omega
  rw [hxl, hyl]
  by_cases hlow : xl < yl <;> by_cases hhigh : 16 * xh + xl < 16 * yh + yl <;>
    simp only [daaResult, daaCorrection, hlow, hhigh, decide_true, decide_false, if_true, if_false, Bool.false_eq_true]
  · exact ⟨xh + 9 - yh, xl + 10 - yl, by omega, by omega, by omega, by omega⟩
  · exact ⟨xh - 1 - yh, xl + 10 - yl, by omega, by omega, by omega, by omega⟩
  · exact ⟨xh + 10 - yh, xl - yl, by omega, by omega, by omega, by omega⟩
  · exact ⟨xh - yh, xl - yl, by omega, by omega, by omega, by omega⟩

end

/-- A multiple of 256 does not count in the result of `DAA`. -/
theorem daaResult_mod (low high : Bool) (a : Nat) : daaResult false low high (a % 256) = daaResult false low high a := by
  simp [daaResult]

/-- `DAA` after `Add8` of packed decimal bytes: the half-carry and the low nibble of the sum tell that the low digits' sum
passes 9, the carry and the sum that the whole passes 0x99. -/
theorem daa8_add8 {a b : Byte} (ha : isBcd a = true) (hb : isBcd b = true) :
    (daa8 (add8 a b 0).1 (add8 a b 0).2).1 =
        BitVec.ofNat 8 (daaResult false (decide (a.toNat % 16 + b.toNat % 16 > 9)) (decide (a.toNat + b.toNat > 0x99))
          (a.toNat + b.toNat)) ∧
      flagC (daa8 (add8 a b 0).1 (add8 a b 0).2).2 = decide (a.toNat + b.toNat > 0x99) := by
  obtain ⟨ah, al, _, _, ha, -⟩ := isPacked_of_isBcd ha
  obtain ⟨bh, bl, _, _, hb, -⟩ := isPacked_of_isBcd hb
  have hlow : daaLow (add8 a b 0).1 (add8 a b 0).2 = decide (a.toNat % 16 + b.toNat % 16 > 9) := by
    simp only [daaLow, add8_eq, flagH_packFlags, flagN_packFlags, BitVec.toNat_ofNat, Nat.add_zero, Bool.not_false,
      Bool.true_and, ← Bool.decide_or, decide_eq_decide]
    omega
  have hhigh : daaHigh (add8 a b 0).1 (add8 a b 0).2 = decide (a.toNat + b.toNat > 0x99) := by
    simp only [daaHigh, add8_eq, flagC_packFlags, flagN_packFlags, BitVec.toNat_ofNat, Nat.add_zero, Bool.not_false,
      Bool.true_and, ← Bool.decide_or, decide_eq_decide]
    omega
  have hn : flagN (add8 a b 0).2 = false := by simp [add8_eq]
  rw [daa8_eq, hlow, hhigh, hn, flagC_packFlags]
  refine ⟨congrArg (BitVec.ofNat 8) ?_, rfl⟩
  rw [add8_eq, BitVec.toNat_ofNat]
  exact daaResult_mod _ _ _

/-- `DAA` after `Sub8`: the half-carry tells that the low digit borrowed, the carry that the whole did. -/
theorem daa8_sub8 (a b : Byte) :
    (daa8 (sub8 a b 0).1 (sub8 a b 0).2).1 =
        BitVec.ofNat 8 (daaResult true (decide (a.toNat % 16 < b.toNat % 16)) (decide (a.toNat < b.toNat))
          ((a.toNat + 256 - b.toNat) % 256)) ∧
      flagC (daa8 (sub8 a b 0).1 (sub8 a b 0).2).2 = decide (a.toNat < b.toNat) := by
  have hd : (BitVec.ofInt 8 ((a.toNat : Int) - b.toNat)).toNat = (a.toNat + 256 - b.toNat) % 256 := by
    have hb := b.isLt
    rw [BitVec.toNat_ofInt]
    omega
  simp [sub8_zero_eq, daa8_eq, daaLow, daaHigh, hd]

/-- An accumulator operation on n8, then `DAA` that leaves the packed decimal form of `v`. -/
theorem exec_aluImm_daa {op : AluOp} {n : Byte} {s : State} {r : Byte × Byte} {x v : Nat} {c : Bool}
    (hr : aluApply op s.regs.a n s.regs.f = r) (ha : (daa8 r.1 r.2).1 = BitVec.ofNat 8 x) (hx : IsPacked x v)
    (hc : flagC (daa8 r.1 r.2).2 = c) :
    ∃ t u, exec (Instr.aluImm op n) s = .next t ∧ exec .daa t = .next u ∧ isBcd u.regs.a = true ∧
      bcdValue u.regs.a = v ∧ u.regs.f.getLsbD 4 = c := by
  obtain ⟨hbcd, hval⟩ := hx.isBcd_ofNat
  rw [← ha] at hbcd hval
  subst hr
  refine ⟨_, _, exec_aluImm op n s, exec_daa_eq _, ?_⟩
  rw [accumulate_eq]
  exact ⟨hbcd, hval, hc⟩

/-- Settles O19: the results are `daa8_add8` and `daa8_sub8`, whose numbers are packed decimal by `IsPacked.daaResult_sum`
and `IsPacked.daaResult_difference`. -/
theorem decimalArithmetic : Obligations.DecimalArithmetic := by
  unfold Obligations.DecimalArithmetic
  intro s n ha hn
  have hpa := isPacked_of_isBcd ha
  have hpn := isPacked_of_isBcd hn
  obtain ⟨hsum, hcarry⟩ := daa8_add8 ha hn
  obtain ⟨hdiff, hborrow⟩ := daa8_sub8 s.regs.a n
  exact ⟨exec_aluImm_daa (op := .add) rfl hsum (hpa.daaResult_sum hpn)
      (hcarry.trans (decide_eq_decide.2 (hpa.sum_gt_iff hpn))),
    exec_aluImm_daa (op := .sub) rfl hdiff (hpa.daaResult_difference hpn)
      (hborrow.trans (decide_eq_decide.2 (hpa.lt_iff hpn)))⟩

/-! CPL, SCF and CCF (rules R200 to R202). -/

theorem xor_FF_eq (a : Byte) : a ^^^ 0xFF = BitVec.ofNat 8 (255 - a.toNat) := by
  apply BitVec.eq_of_toNat_eq
  rw [show (0xFF : Byte) = BitVec.allOnes 8 from rfl, BitVec.xor_allOnes, BitVec.toNat_not, BitVec.toNat_ofNat]
  omega

/-- Settles O20: each arm packs the flags it names; the complement of A is `xor_FF_eq`. -/
theorem complementAndCarry : Obligations.ComplementAndCarry := by
  unfold Obligations.ComplementAndCarry
  intro s
  dsimp only
  rw [← xor_FF_eq]
  exact ⟨rfl, rfl, rfl, ⟨_, flagsAre_packFlags _ _ _ _, registerOnly_of_exec rfl⟩,
    ⟨_, flagsAre_packFlags _ _ _ _, registerOnly_of_exec rfl⟩,
    ⟨_, flagsAre_packFlags _ _ _ _, registerOnly_of_exec rfl⟩⟩

end Machine

open Machine in
/-- Settles O18: the result and the flag byte are `daa8_eq`. (In `Machine` this name is the operation's.) -/
theorem decimalAdjust : Obligations.DecimalAdjust := by
  unfold Obligations.DecimalAdjust
  intro s
  refine ⟨rfl, (daa8 s.regs.a s.regs.f).2, ?_, registerOnly_of_exec ((exec_daa_eq s).trans ?_)⟩
  · rw [daa8_eq]
    exact flagsAre_packFlags _ _ _ _
  · rw [daa8_eq]
    rfl

end Sys2Proof
end

section
/-! 16-bit arithmetic (rules R209, R210, R212, R213): how each class is written, the sum in integers with its two carries, and
a pair moved by one. -/

namespace Sys2Proof

/-! Encodings of the classes (rules R102, R105). -/

theorem encode_addHL (p : R16) : encode (Instr.addHL p) = [0x09 ||| p.code <<< 4] := by
  cases p <;> rfl

theorem encode_incPair (p : R16) : encode (Instr.incPair p) = [0x03 ||| p.code <<< 4] := by
  cases p <;> rfl

theorem encode_decPair (p : R16) : encode (Instr.decPair p) = [0x0B ||| p.code <<< 4] := by
  cases p <;> rfl

namespace Machine

open Sys2Proof.Laws

/-! ADD HL,rr (rules R209, R210). -/

theorem halfCarry16_eq (x y : Word) : halfCarry16 x y = decide (x.toNat % 16 + y.toNat % 16 > 15) := by
  rw [halfCarry16, and_000F_toNat, and_000F_toNat]

theorem hiByte_add (x y : Word) : hiByte (x + y) = BitVec.ofNat 8 ((x.toNat + y.toNat) / 256) := by
  apply BitVec.eq_of_toNat_eq
  rw [hiByte_toNat, BitVec.toNat_add, BitVec.toNat_ofNat]
  omega

theorem loByte_add (x y : Word) : loByte (x + y) = BitVec.ofNat 8 (x.toNat + y.toNat) := by
  apply BitVec.eq_of_toNat_eq
  rw [loByte_toNat, BitVec.toNat_add, BitVec.toNat_ofNat]
  omega

/-- The flag byte of `ADD HL,rr` from the flag byte before it (rules R209, R210). -/
def addHLFlags (f : Byte) (x y : Word) : Byte :=
  packFlags (flagZ f) false (halfCarry16 x y) (decide (x.toNat + y.toNat > 0xFFFF))

theorem flagsAre_addHLFlags (f : Byte) (x y : Word) :
    FlagsAre (addHLFlags f x y) (flagZ f) false (decide (x.toNat % 16 + y.toNat % 16 > 15))
      (decide (x.toNat + y.toNat > 65535)) := by
  rw [addHLFlags, halfCarry16_eq]
  exact flagsAre_packFlags _ _ _ _

theorem registerOnly_addHL (p : R16) (s : State) :
    RegisterOnly (Instr.addHL p) s
      { s.regs.setHL (s.regs.hl + s.regs.getPair p) with f := addHLFlags s.regs.f s.regs.hl (s.regs.getPair p) } 8 :=
  registerOnly_of_exec (exec_addHL p s)

/-- Settles O21: the arm is `registerOnly_addHL`; its flags are `flagsAre_addHLFlags` and the bytes of its sum `hiByte_add`
and `loByte_add`. -/
theorem addHL : Obligations.AddHL := by
  unfold Obligations.AddHL
  intro s p
  have hexec := registerOnly_addHL p s
  rw [Regs.setHL, hiByte_add, loByte_add] at hexec
  exact ⟨encode_addHL p, _, flagsAre_addHLFlags s.regs.f s.regs.hl (s.regs.getPair p), hexec⟩

/-! INC rr and DEC rr (rules R212, R213). -/

theorem registerOnly_incPair (p : R16) (s : State) :
    RegisterOnly (Instr.incPair p) s (s.regs.setPair p (s.regs.getPair p + 1)) 8 :=
  registerOnly_of_exec (exec_incPair p s)

theorem registerOnly_decPair (p : R16) (s : State) :
    RegisterOnly (Instr.decPair p) s (s.regs.setPair p (s.regs.getPair p - 1)) 8 :=
  registerOnly_of_exec (exec_decPair p s)

/-- A register file with one pair written: that pair reads as the new word, and the other pairs, A, F and PC as before. -/
theorem exists_regs_of_setPair {i : Instr} {s : State} {p : R16} {w : Word} {n cost : Nat} (hw : w.toNat = n)
    (h : RegisterOnly i s (s.regs.setPair p w) cost) :
    ∃ r : Regs, (r.getPair p).toNat = n ∧ (∀ q, q ≠ p → r.getPair q = s.regs.getPair q) ∧
      r.a = s.regs.a ∧ r.f = s.regs.f ∧ r.pc = s.regs.pc ∧ RegisterOnly i s r cost :=
  ⟨_, by rw [Regs.getPair_setPair, hw], fun _ => Regs.getPair_setPair_ne s.regs w, Regs.setPair_a s.regs p w,
    Regs.setPair_f s.regs p w, Regs.setPair_pc s.regs p w, h⟩

theorem toNat_sub_one (w : Word) : (w - 1).toNat = (w.toNat + 65535) % 65536 := by
  bv_omega

/-- Settles O23: each arm writes one pair (`registerOnly_incPair`, `registerOnly_decPair`), and a written pair leaves the rest
(`exists_regs_of_setPair`). -/
theorem incDec16 : Obligations.IncDec16 := by
  unfold Obligations.IncDec16
  exact fun s p => ⟨encode_incPair p, encode_decPair p,
    exists_regs_of_setPair (BitVec.toNat_add _ 1) (registerOnly_incPair p s),
    exists_regs_of_setPair (toNat_sub_one _) (registerOnly_decPair p s)⟩

end Machine

end Sys2Proof
end

section
/-! Rotates, shifts and bits (rules R220 to R245): how each class is written, the shifted byte as a number, and the single
bits of a byte. -/

namespace Sys2Proof

/-! Encodings of the classes (rules R102, R104, R108). -/

theorem encode_rot (op : RotOp) (o : Opnd) : encode (Instr.rot op o) = ([0xCB, op.code <<< 3 ||| o.code] : List Byte) := by
  obtain ⟨_ | _⟩ | _ := o <;> cases op <;> rfl

theorem encode_bit (b : Fin 8) (o : Opnd) :
    encode (Instr.bit b o) = ([0xCB, 0x40 ||| BitVec.ofNat 8 b.val <<< 3 ||| o.code] : List Byte) := by
  obtain ⟨_ | _⟩ | _ := o <;> fin_cases b <;> rfl

theorem encode_res (b : Fin 8) (o : Opnd) :
    encode (Instr.res b o) = ([0xCB, 0x80 ||| BitVec.ofNat 8 b.val <<< 3 ||| o.code] : List Byte) := by
  obtain ⟨_ | _⟩ | _ := o <;> fin_cases b <;> rfl

theorem encode_set (b : Fin 8) (o : Opnd) :
    encode (Instr.set b o) = ([0xCB, 0xC0 ||| BitVec.ofNat 8 b.val <<< 3 ||| o.code] : List Byte) := by
  obtain ⟨_ | _⟩ | _ := o <;> fin_cases b <;> rfl

namespace Machine

open Sys2Proof.Laws

/-! Shifted bytes as numbers. -/

section
variable (v : Byte) (c : Bool)

theorem bit7_toNat : (v.getLsbD 7).toNat = v.toNat / 128 := by
  rw [← BitVec.testBit_toNat, Nat.toNat_testBit]
  exact Nat.mod_eq_of_lt (by have := v.isLt; omega)

theorem bit0_toNat : (v.getLsbD 0).toNat = v.toNat % 2 := by
  rw [← BitVec.testBit_toNat, Nat.toNat_testBit, Nat.pow_zero, Nat.div_one]

theorem bit7_eq : v.getLsbD 7 = decide (v.toNat / 128 = 1) := by
  rw [← bit7_toNat]
  cases v.getLsbD 7 <;> rfl

theorem bit0_eq : v.getLsbD 0 = decide (v.toNat % 2 = 1) := by
  rw [← bit0_toNat]
  cases v.getLsbD 0 <;> rfl

/-- Bytes without a common bit are joined as numbers are added. -/
theorem or_eq_ofNat_add {x y : Byte} (h : x &&& y = 0) : x ||| y = BitVec.ofNat 8 (x.toNat + y.toNat) := by
  rw [← BitVec.add_eq_or_of_and_eq_zero x y h]
  rfl

/-- A shift to the left with `c` as the new bit 0. -/
theorem shiftLeft_or_carry : v <<< 1 ||| (if c then 0x01 else 0x00) = BitVec.ofNat 8 (v.toNat * 2 + c.toNat) := by
  have hdisjoint : v <<< 1 &&& (if c then 0x01 else 0x00) = (0 : Byte) := by
    cases c with
    | false => exact BitVec.and_zero
    | true => exact (BitVec.and_twoPow (v <<< 1) 0).trans (by simp)
  rw [or_eq_ofNat_add hdisjoint]
  apply BitVec.eq_of_toNat_eq
  cases c <;> simp [Nat.shiftLeft_eq]

/-- A shift to the right with `c` as the new bit 7. -/
theorem shiftRight_or_carry : v >>> 1 ||| (if c then 0x80 else 0x00) = BitVec.ofNat 8 (v.toNat / 2 + c.toNat * 128) := by
  have hdisjoint : v >>> 1 &&& (if c then 0x80 else 0x00) = (0 : Byte) := by
    cases c with
    | false => exact BitVec.and_zero
    | true => exact (BitVec.and_twoPow (v >>> 1) 7).trans (by simp)
  rw [or_eq_ofNat_add hdisjoint]
  apply BitVec.eq_of_toNat_eq
  cases c <;> simp [Nat.shiftRight_eq_div_pow]

/-- The two nibbles exchanged (rules R236, R237). -/
theorem swapNibbles_eq : v <<< 4 ||| v >>> 4 = BitVec.ofNat 8 (v.toNat % 16 * 16 + v.toNat / 16) := by
  have hdisjoint : v <<< 4 &&& v >>> 4 = 0 := by
    ext k hk
    by_cases hlow : k < 4
    · simp [hlow]
    · simp [BitVec.getLsbD_of_ge v (4 + k) (by omega)]
  rw [or_eq_ofNat_add hdisjoint]
  apply BitVec.eq_of_toNat_eq
  simp only [BitVec.toNat_shiftLeft, BitVec.toNat_ushiftRight, BitVec.toNat_ofNat, Nat.shiftLeft_eq,
    Nat.shiftRight_eq_div_pow]
  omega

/-! Each rotate and shift in integers (rules R224 to R239): the result, and the bit shifted out. -/

theorem rotApply_rlc :
    rotApply .rlc v c = (BitVec.ofNat 8 (v.toNat * 2 + v.toNat / 128), decide (v.toNat / 128 = 1)) := by
  rw [rotApply, shiftLeft_or_carry, bit7_toNat, bit7_eq]

theorem rotApply_rrc :
    rotApply .rrc v c = (BitVec.ofNat 8 (v.toNat / 2 + v.toNat % 2 * 128), decide (v.toNat % 2 = 1)) := by
  rw [rotApply, shiftRight_or_carry, bit0_toNat, bit0_eq]

theorem rotApply_rl :
    rotApply .rl v c = (BitVec.ofNat 8 (v.toNat * 2 + c.toNat), decide (v.toNat / 128 = 1)) := by
  rw [rotApply, shiftLeft_or_carry, bit7_eq]

theorem rotApply_rr :
    rotApply .rr v c = (BitVec.ofNat 8 (v.toNat / 2 + c.toNat * 128), decide (v.toNat % 2 = 1)) := by
  rw [rotApply, shiftRight_or_carry, bit0_eq]

theorem rotApply_sla : rotApply .sla v c = (BitVec.ofNat 8 (v.toNat * 2), decide (v.toNat / 128 = 1)) := by
  have hshift : v <<< 1 = BitVec.ofNat 8 (v.toNat * 2) := by simpa using shiftLeft_or_carry v false
  rw [rotApply, hshift, bit7_eq]

theorem rotApply_sra :
    rotApply .sra v c = (BitVec.ofNat 8 (v.toNat / 2 + v.toNat / 128 * 128), decide (v.toNat % 2 = 1)) := by
  have hsign : v &&& 0x80 = if v.getLsbD 7 then 0x80 else 0x00 := BitVec.and_twoPow v 7
  rw [rotApply, hsign, shiftRight_or_carry, bit7_toNat, bit0_eq]

theorem rotApply_swap : rotApply .swap v c = (BitVec.ofNat 8 (v.toNat % 16 * 16 + v.toNat / 16), false) := by
  rw [rotApply, swapNibbles_eq]

theorem rotApply_srl : rotApply .srl v c = (BitVec.ofNat 8 (v.toNat / 2), decide (v.toNat % 2 = 1)) := by
  have hshift : v >>> 1 = BitVec.ofNat 8 (v.toNat / 2) := by simpa using shiftRight_or_carry v false
  rw [rotApply, hshift, bit0_eq]

end

/-! The rotates of A (rules R220 to R223). -/

theorem registerOnly_rotateA {i : Instr} {op : RotOp} {s : State} {r : Byte} {c : Bool}
    (hi : exec i s = .next (rotateA op s)) (h : rotApply op s.regs.a (flagC s.regs.f) = (r, c)) :
    RegisterOnly i s { s.regs with a := r, f := packFlags false false false c } 4 := by
  apply registerOnly_of_exec
  rw [hi, rotateA, h]
  rfl

/-! The rotates and shifts of the extended map (rules R224 to R239). -/

/-- A rotate or shift whose result is the number `n` modulo 256. -/
theorem modifiesOpnd_rot {op : RotOp} {o : Opnd} {s : State} {n : Nat} {z c : Bool}
    (h : rotApply op (s.readOpnd o) (flagC s.regs.f) = (BitVec.ofNat 8 n, c)) (hz : decide (n % 256 = 0) = z) :
    ∃ f, FlagsAre f z false false c ∧ ModifiesOpnd (Instr.rot op o) s o (BitVec.ofNat 8 n) f 8 := by
  refine ⟨packFlags z false false c, flagsAre_packFlags _ _ _ _, modifiesOpnd_of_exec ?_⟩
  rw [exec_rot, rotateOpnd, h, byte_beq_zero, BitVec.toNat_ofNat, hz]

/-- As `modifiesOpnd_rot`, where the number is a byte. -/
theorem modifiesOpnd_rot_of_lt {op : RotOp} {o : Opnd} {s : State} {n : Nat} {c : Bool}
    (h : rotApply op (s.readOpnd o) (flagC s.regs.f) = (BitVec.ofNat 8 n, c)) (hn : n < 256) :
    ∃ f, FlagsAre f (decide (n = 0)) false false c ∧ ModifiesOpnd (Instr.rot op o) s o (BitVec.ofNat 8 n) f 8 :=
  modifiesOpnd_rot h (by rw [Nat.mod_eq_of_lt hn])

/-- Settles O25: the results and the bits shifted out are `rotApply_rlc`, `rotApply_rrc`, `rotApply_rl` and `rotApply_rr`;
what is shifted to the right stays below 256. -/
theorem rotateExtended : Obligations.RotateExtended := by
  unfold Obligations.RotateExtended
  intro s o
  dsimp only
  rw [← carryIn_eq]
  have hv := (s.readOpnd o).isLt
  have hci := carryIn_le s.regs.f
  exact ⟨fun op => encode_rot op o, modifiesOpnd_rot (rotApply_rlc _ _) rfl,
    modifiesOpnd_rot_of_lt (rotApply_rrc _ _) (by omega), modifiesOpnd_rot (rotApply_rl _ _) rfl,
    modifiesOpnd_rot_of_lt (rotApply_rr _ _) (by omega)⟩

/-- Settles O26: the results and the bits shifted out are `rotApply_sla`, `rotApply_sra`, `rotApply_swap` and
`rotApply_srl`; exchanged nibbles are 0 exactly if the byte is. -/
theorem shiftExtended : Obligations.ShiftExtended := by
  unfold Obligations.ShiftExtended
  intro s o
  have hv := (s.readOpnd o).isLt
  have hswap : (s.readOpnd o).toNat % 16 * 16 + (s.readOpnd o).toNat / 16 = 0 ↔ (s.readOpnd o).toNat = 0 := by omega
  have hexec := modifiesOpnd_rot_of_lt (rotApply_swap (s.readOpnd o) (flagC s.regs.f)) (by omega)
  rw [decide_eq_decide.2 hswap] at hexec
  exact ⟨fun op => encode_rot op o, modifiesOpnd_rot (rotApply_sla _ _) rfl,
    modifiesOpnd_rot_of_lt (rotApply_sra _ _) (by omega), hexec,
    modifiesOpnd_rot_of_lt (rotApply_srl _ _) (by omega)⟩

/-! Bit test, reset and set (rules R240 to R245). -/

/-- Settles O27: the arm reads its operand, packs the flags and writes nothing else. -/
theorem bitTest : Obligations.BitTest := by
  unfold Obligations.BitTest
  refine fun s b o => ⟨encode_bit b o, _, flagsAre_packFlags _ _ _ _, usesSource_of_exec ?_⟩
  rw [exec_bit]
  simp [testBit, State.setF, State.addCycles, State.afterReadSource, sourceCost, flagC]

theorem getLsbD_bitMask (b : Fin 8) (k : Nat) : (bitMask b.val).getLsbD k = decide (k = b.val) := by
  rw [bitMask, BitVec.getLsbD_ofNat, Nat.testBit_two_pow, ← Bool.decide_and, decide_eq_decide]
  omega

/-- An instruction that rewrites its operand and no flag. -/
theorem modifiesOpnd_of_exec_sameFlags {i : Instr} {s : State} {o : Opnd} {v : Byte} {n : Nat}
    (h : exec i s = .next (((s.afterReadOpnd o).writeOpnd o v).addCycles (n + 2 * opndCost o))) :
    ModifiesOpnd i s o v s.regs.f n := by
  have hf : ((s.afterReadOpnd o).writeOpnd o v).regs.f = s.regs.f := by
    rw [State.writeOpnd_f, State.afterReadOpnd_regs]
  apply modifiesOpnd_of_exec
  rw [h, ← hf]
  rfl

theorem modifiesOpnd_res (b : Fin 8) (o : Opnd) (s : State) :
    ModifiesOpnd (Instr.res b o) s o (s.readOpnd o &&& ~~~ bitMask b.val) s.regs.f 8 :=
  modifiesOpnd_of_exec_sameFlags (exec_res b o s)

theorem modifiesOpnd_set (b : Fin 8) (o : Opnd) (s : State) :
    ModifiesOpnd (Instr.set b o) s o (s.readOpnd o ||| bitMask b.val) s.regs.f 8 :=
  modifiesOpnd_of_exec_sameFlags (exec_set b o s)

theorem getLsbD_and_not_bitMask (v : Byte) (b : Fin 8) {k : Nat} (hk : k < 8) :
    (v &&& ~~~ bitMask b.val).getLsbD k = if k = b.val then false else v.getLsbD k := by
  rw [BitVec.getLsbD_and, BitVec.getLsbD_not, getLsbD_bitMask]
  by_cases h : k = b.val <;> simp [h, hk]

theorem getLsbD_or_bitMask (v : Byte) (b : Fin 8) (k : Nat) :
    (v ||| bitMask b.val).getLsbD k = if k = b.val then true else v.getLsbD k := by
  rw [BitVec.getLsbD_or, getLsbD_bitMask]
  by_cases h : k = b.val <;> simp [h]

/-- Settles O28: the arms are `modifiesOpnd_res` and `modifiesOpnd_set`; the bits of what they write are
`getLsbD_and_not_bitMask` and `getLsbD_or_bitMask`. -/
theorem bitResetAndSet : Obligations.BitResetAndSet := by
  unfold Obligations.BitResetAndSet
  exact fun s b o => ⟨encode_res b o, encode_set b o,
    ⟨_, fun _ hk => getLsbD_and_not_bitMask _ b hk, modifiesOpnd_res b o s⟩,
    ⟨_, fun k _ => getLsbD_or_bitMask _ b k, modifiesOpnd_set b o s⟩⟩

end Machine

open Machine in
/-- Settles O24: the rotate of A is the one of `rotApply_rlc`, `rotApply_rl`, `rotApply_rrc` and `rotApply_rr`, with Z
cleared. (In `Machine` this name is the operation's.) -/
theorem rotateA : Obligations.RotateA := by
  unfold Obligations.RotateA
  intro s
  dsimp only
  rw [← carryIn_eq]
  exact ⟨rfl, rfl, rfl, rfl,
    ⟨_, flagsAre_packFlags _ _ _ _, registerOnly_rotateA rfl (rotApply_rlc _ _),
      registerOnly_rotateA rfl (rotApply_rl _ _)⟩,
    ⟨_, flagsAre_packFlags _ _ _ _, registerOnly_rotateA rfl (rotApply_rrc _ _),
      registerOnly_rotateA rfl (rotApply_rr _ _)⟩⟩

end Sys2Proof
end

section
/-! Jumps, calls, returns and restarts (rules R254 to R265): how each class is written, and how each operation completes. -/

namespace Sys2Proof

/-! Encodings of the classes (rules R101, R106, R112). -/

theorem encode_jpCond (cc : Cond) (w : Word) :
    encode (Instr.jpCond cc w) = [0xC2 ||| cc.code <<< 3, loByte w, hiByte w] := by
  cases cc <;> rfl

theorem encode_jrCond (cc : Cond) (e : Byte) : encode (Instr.jrCond cc e) = [0x20 ||| cc.code <<< 3, e] := by
  cases cc <;> rfl

theorem encode_callCond (cc : Cond) (w : Word) :
    encode (Instr.callCond cc w) = [0xC4 ||| cc.code <<< 3, loByte w, hiByte w] := by
  cases cc <;> rfl

theorem encode_retCond (cc : Cond) : encode (Instr.retCond cc) = [0xC0 ||| cc.code <<< 3] := by
  cases cc <;> rfl

theorem encode_rst (y : Fin 8) : encode (Instr.rst y) = [0xC7 ||| BitVec.ofNat 8 y.val <<< 3] := by
  fin_cases y <;> rfl

namespace Machine

open Sys2Proof.Laws

section
variable {i : Instr} {s : State} {cc : Cond} {a : Word} {m n : Nat}

/-! From an answer of exec in terms of a control operation to a shape of completion. -/

theorem registerOnly_of_jumpIf (h : exec i s = .next (jumpIf cc a m n s)) :
    RegisterOnly i s { s.regs with pc := if condHolds cc s.regs.f then a else s.regs.pc }
      (if condHolds cc s.regs.f then m else n) :=
  registerOnly_of_exec (h.trans (congrArg Host.Outcome.next (jumpIf_eq cc a m n s)))

theorem pushesWord_of_callTo (h : exec i s = .next (callTo a n s)) : PushesWord i s s.regs.pc a n :=
  pushesWord_of_exec (h.trans (congrArg Host.Outcome.next (callTo_eq a n s)))

theorem popsWord_of_returnFromCall (h : exec i s = .next (returnFromCall n s)) :
    PopsWord i s { s.regs with pc := s.stackTop } s.ime n :=
  popsWord_of_exec (h.trans (congrArg Host.Outcome.next (returnFromCall_eq n s)))

/-! The two outcomes of a conditional call and of a conditional return (rules R261, R263). -/

theorem callIf_of_condHolds (h : condHolds cc s.regs.f = true) : callIf cc a s = callTo a 24 s := if_pos h

theorem callIf_of_not_condHolds (h : condHolds cc s.regs.f = false) : callIf cc a s = s.addCycles 12 := by
  simp [callIf, h]

theorem returnIf_of_condHolds (h : condHolds cc s.regs.f = true) : returnIf cc s = returnFromCall 20 s := if_pos h

theorem returnIf_of_not_condHolds (h : condHolds cc s.regs.f = false) : returnIf cc s = s.addCycles 8 := by
  simp [returnIf, h]

end

/-- The return from an interrupt is a return that sets IME (rules R264, R443). -/
theorem returnFromInterrupt_addCycles (n : Nat) (s : State) :
    s.returnFromInterrupt.addCycles n = { returnFromCall n s with ime := true } := rfl

/-- Settles O29: the conditional jumps are `jumpIf` (`registerOnly_of_jumpIf`), the others one write of PC; the target of a
`JR` is rewritten by `add_sext16_eq`. -/
theorem jumps : Obligations.Jumps := by
  unfold Obligations.Jumps
  dsimp only
  simp only [← add_sext16_eq]
  exact ⟨fun f => ⟨rfl, rfl, rfl, rfl⟩, fun s cc w e => ⟨rfl, registerOnly_of_exec rfl,
    encode_jpCond cc w, registerOnly_of_jumpIf (exec_jpCond cc w s), rfl, registerOnly_of_exec rfl,
    rfl, registerOnly_of_exec rfl, encode_jrCond cc e, registerOnly_of_jumpIf (exec_jrCond cc e s)⟩⟩

/-- Settles O30: `CALL` and `RST` are `callTo` (`pushesWord_of_callTo`), and so is a `CALL cc` whose condition holds;
one whose condition fails only costs. -/
theorem callsAndRestarts : Obligations.CallsAndRestarts := by
  unfold Obligations.CallsAndRestarts
  refine fun s cc w y => ⟨rfl, pushesWord_of_callTo rfl, encode_callCond cc w, fun h => ?_, fun h => ?_,
    encode_rst y, pushesWord_of_callTo (exec_rst y s)⟩
  · apply pushesWord_of_callTo
    rw [exec_callCond, callIf_of_condHolds h]
  · apply registerOnly_of_exec
    rw [exec_callCond, callIf_of_not_condHolds h]
    rfl

/-- Settles O31: `RET` is `returnFromCall` (`popsWord_of_returnFromCall`), and so is a `RET cc` whose condition holds;
one whose condition fails only costs. `RETI` is the same pop with IME set (`returnFromInterrupt_addCycles`). -/
theorem returns : Obligations.Returns := by
  unfold Obligations.Returns
  refine fun s cc => ⟨rfl, popsWord_of_returnFromCall rfl, encode_retCond cc, fun h => ?_, fun h => ?_, rfl, ?_⟩
  · apply popsWord_of_returnFromCall
    rw [exec_retCond, returnIf_of_condHolds h]
  · apply registerOnly_of_exec
    rw [exec_retCond, returnIf_of_not_condHolds h]
    rfl
  · have hexec : exec .reti s = .next { returnFromCall 16 s with ime := true } :=
      congrArg Host.Outcome.next (returnFromInterrupt_addCycles 16 s)
    rw [returnFromCall_eq] at hexec
    exact popsWord_of_exec hexec

end Machine

end Sys2Proof
end

section
/-! CPU control (rules R275 to R279): the CPU's two latches IME and halted, and the instructions that set one or neither. -/

namespace Sys2Proof.Machine

section
variable {i : Instr} {s : State} {ime halted : Bool} {n : Nat}

/-- Counterpart of `registerOnly_of_exec` for the latches: IME and halted are no bytes of the address space. -/
theorem latchesOnly_of_exec
    (h : exec i s = .next { s with ime := ime, halted := halted, cycles := s.cycles + n }) :
    ∃ t, exec i s = .next t ∧ t = { s with ime := ime, halted := halted, cycles := s.cycles + n } ∧ s.sameBytes t :=
  ⟨_, h, rfl, State.sameBytes_update s s.regs ime halted s.bootActive s.fault _ _ s.events s.hostInputs⟩

end

/-- Settles O32: `NOP` only costs (`registerOnly_of_exec`), `DI` clears the latch IME (`latchesOnly_of_exec`). -/
theorem nopAndDi : Obligations.NopAndDi := by
  unfold Obligations.NopAndDi
  exact fun s => ⟨rfl, registerOnly_of_exec rfl, rfl, latchesOnly_of_exec (ime := false) rfl⟩

/-- Settles O33: `HALT` and `EI` each set one latch (`latchesOnly_of_exec`), `STOP` only costs
(`registerOnly_of_exec`). -/
theorem haltStopEi : Obligations.HaltStopEi := by
  unfold Obligations.HaltStopEi
  exact fun s => ⟨rfl, latchesOnly_of_exec (halted := true) rfl, rfl, registerOnly_of_exec rfl,
    rfl, latchesOnly_of_exec (ime := true) rfl⟩

end Sys2Proof.Machine
end

section
/-! What a step costs (rules R12, R310, R431): how its parts move the total, and the bounds of its cost. -/

namespace Sys2Proof.Machine

open Sys2Proof.Laws

section
variable (s : State)

theorem State.beginStep_totalCycles : s.beginStep.totalCycles = s.totalCycles := by
  obtain ⟨_, _, _, _, _, e⟩ := s.hostTurn_eq
  unfold State.beginStep State.interruptDispatch
  rw [e]
  split
  · rw [State.enterInterrupt_eq]
    simp
  · rfl

theorem State.fetchInstr_cycles_totalCycles :
    s.fetchInstr.2.cycles = s.cycles ∧ s.fetchInstr.2.totalCycles = s.totalCycles := by
  obtain ⟨_, _, e⟩ := s.fetchInstr_eq
  rw [e]
  exact ⟨rfl, rfl⟩

/-- The updates leave the total alone; the step then adds its cost to it (rule R6). -/
theorem State.finishStep_totalCycles : s.finishStep.totalCycles = s.totalCycles + s.cycles := by
  obtain ⟨_, _, _, _, _, ht, -⟩ := s.displayUpdate_leaves s.cycles
  obtain ⟨_, _, _, _, _, _, e⟩ := (s.displayUpdate s.cycles).timerUpdate_eq s.cycles
  simp only [State.finishStep, State.audioUpdate, State.emit_totalCycles, e, ht]

end

/-- A step that completes ends with the updates; before them it has charged 4 to 24 cycles above what a dispatch cost, and has
not touched the total. -/
theorem step_charges {s t : State} (h : step s = .next t) (ht : t.fault = none) :
    ∃ u : State, t = u.finishStep ∧ u.totalCycles = s.totalCycles ∧
      s.beginStep.cycles + 4 ≤ u.cycles ∧ u.cycles ≤ s.beginStep.cycles + 24 := by
  obtain ⟨-, ⟨-, rfl⟩ | ⟨-, u, hu, ⟨hn, rfl⟩ | ⟨hn, rfl⟩⟩⟩ := step_cases h
  · refine ⟨_, rfl, s.beginStep_totalCycles, Nat.le_refl _, ?_⟩
    rw [State.addCycles_cycles]
    omega
  · exact absurd ht hn
  · obtain ⟨hc, hT⟩ := s.beginStep.fetchInstr_cycles_totalCycles
    have hi : ∀ i, s.beginStep.fetchInstr.1 ≠ Instr.illegal i := by
      intro i hi
      rw [hi, exec_illegal] at hu
      cases hu
      cases hn
    have hcost := exec_cost _ hu hi
    have htotal := (State.execKeeps_sameTime _).exec _ (State.SameTime.refl _) hu
    rw [hc] at hcost
    exact ⟨u, rfl, by rw [htotal.total, hT, s.beginStep_totalCycles], hcost⟩

/-- Settles O56: what a completing step charges is `step_charges`, of which a dispatch is at most the parameter
(`State.beginStep_cycles_le`), and all of it goes into the total. -/
theorem stepCost : Obligations.StepCost := by
  unfold Obligations.StepCost
  intro s t h ht
  obtain ⟨u, rfl, hT, hlo, hhi⟩ := step_charges h ht
  have hb := s.beginStep_cycles_le
  rw [State.finishStep_totalCycles, hT]
  omega

end Sys2Proof.Machine
end

section
/-! The display's timing state machine (rules R310 to R319): what one evaluation of a mode does, as data, and that every update
while the machine runs does it. -/

namespace Sys2Proof.Machine

/-- What an evaluation of a mode leads to: the mode, its clock and the line after it, the events it emits, and whether it makes
the request of VBlank and one of an enabled STAT source. -/
structure Transition where
  mode : BitVec 2
  clock : Nat
  line : Byte
  emitted : List Event
  vblank : Bool
  stat : Bool

/-- The transition an update of cost `c` makes: none below the threshold of the mode, else that of rules R312 to R315. -/
def Display.transition (d : Display) (c : Nat) : Transition :=
  let n := d.modeClock + c
  if n < modeThreshold d.mode then ⟨d.mode, n, d.ly, [], false, false⟩
  else if d.mode = 2 then ⟨3, n - 80, d.ly, [], false, false⟩
  else if d.mode = 3 then ⟨0, n - 172, d.ly, [.renderLine d.ly], false, d.stat.getLsbD 3⟩
  else if d.mode = 0 then
    if d.ly + 1 = 144 then ⟨1, n - 204, d.ly + 1, [.presentFrame], true, d.stat.getLsbD 4⟩
    else ⟨2, n - 204, d.ly + 1, [], false, d.stat.getLsbD 5⟩
  else if d.ly + 1 = 154 then ⟨2, n - 456, 0, [], false, d.stat.getLsbD 5⟩
  else ⟨1, n - 456, d.ly + 1, [], false, false⟩

section
variable {d : Display} {c : Nat}

theorem Display.transition_of_lt (h : d.modeClock + c < modeThreshold d.mode) :
    d.transition c = ⟨d.mode, d.modeClock + c, d.ly, [], false, false⟩ := if_pos h

theorem Display.transition_oamScan (hm : d.mode = 2) (h : 80 ≤ d.modeClock + c) :
    d.transition c = ⟨3, d.modeClock + c - 80, d.ly, [], false, false⟩ := by
  rw [Display.transition, hm]
  exact if_neg (Nat.not_lt.2 h)

theorem Display.transition_vramScan (hm : d.mode = 3) (h : 172 ≤ d.modeClock + c) :
    d.transition c =
      ⟨0, d.modeClock + c - 172, d.ly, [.renderLine d.ly], false, d.stat.getLsbD 3⟩ := by
  rw [Display.transition, hm]
  exact if_neg (Nat.not_lt.2 h)

theorem Display.transition_hblank (hm : d.mode = 0) (h : 204 ≤ d.modeClock + c) :
    d.transition c =
      if d.ly + 1 = 144 then ⟨1, d.modeClock + c - 204, d.ly + 1, [.presentFrame], true, d.stat.getLsbD 4⟩
      else ⟨2, d.modeClock + c - 204, d.ly + 1, [], false, d.stat.getLsbD 5⟩ := by
  rw [Display.transition, hm]
  exact if_neg (Nat.not_lt.2 h)

theorem Display.transition_vblank (hm : d.mode = 1) (h : 456 ≤ d.modeClock + c) :
    d.transition c =
      if d.ly + 1 = 154 then ⟨2, d.modeClock + c - 456, 0, [], false, d.stat.getLsbD 5⟩
      else ⟨1, d.modeClock + c - 456, d.ly + 1, [], false, false⟩ := by
  rw [Display.transition, hm]
  exact if_neg (Nat.not_lt.2 h)

end

/-- `t` is `s` after the transition `r`; a request wakes the CPU (rules R319, R436). -/
structure State.Takes (s t : State) (r : Transition) : Prop where
  mode : t.display.mode = r.mode
  clock : t.display.modeClock = r.clock
  line : t.display.ly = r.line
  events : t.events = s.events ++ r.emitted
  intFlag : t.intFlag = s.intFlag ||| (if r.vblank then 0x01 else 0x00) ||| (if r.stat then 0x02 else 0x00)
  halted : t.halted = (s.halted && !(r.vblank || r.stat))

/-- Of the state before, only the events, IF and `halted` count. -/
theorem State.Takes.of_eq {s u t : State} {r : Transition} (h : u.Takes t r) (he : u.events = s.events)
    (hi : u.intFlag = s.intFlag) (hh : u.halted = s.halted) : s.Takes t r :=
  ⟨h.mode, h.clock, h.line, he ▸ h.events, hi ▸ h.intFlag, hh ▸ h.halted⟩

theorem State.coincidence_intFlag (s : State) : s.coincidence.intFlag =
    s.intFlag ||| (if decide (s.display.ly = s.display.lyc) && s.display.stat.getLsbD 6 then 0x02 else 0x00) := by
  unfold State.coincidence
  split
  · rename_i h
    rw [State.statRequest_intFlag, Display.setCoincidence_stat_bit _ _ 6 (by decide) (by decide), decide_eq_true h,
      Bool.true_and]
  · rename_i h
    rw [decide_eq_false h]
    simp

theorem State.coincidence_halted (s : State) : s.coincidence.halted =
    (s.halted && !(decide (s.display.ly = s.display.lyc) && s.display.stat.getLsbD 6)) := by
  unfold State.coincidence
  split
  · rename_i h
    rw [State.statRequest_halted, Display.setCoincidence_stat_bit _ _ 6 (by decide) (by decide), decide_eq_true h,
      Bool.true_and]
  · rename_i h
    rw [decide_eq_false h]
    simp

section
variable {s t : State} {r : Transition} (h : s.Takes t r)
include h

theorem State.Takes.emit (e : Event) : s.Takes (t.emit e) { r with emitted := r.emitted ++ [e] } :=
  ⟨h.mode, h.clock, h.line, by rw [State.emit_events, h.events, List.append_assoc], h.intFlag, h.halted⟩

/-- The request of VBlank, before any of STAT. -/
theorem State.Takes.raiseVBlank (hv : r.vblank = false) (hs : r.stat = false) :
    s.Takes (t.raiseIRQ 0) { r with vblank := true } where
  mode := h.mode
  clock := h.clock
  line := h.line
  events := h.events
  intFlag := by
    rw [State.raiseIRQ_intFlag, h.intFlag, hv, hs]
    simp [bitMask]
  halted := by simp

/-- The request of a STAT source, if it is enabled (rule R319). -/
theorem State.Takes.statRequest (hs : r.stat = false) (b : Nat) :
    s.Takes (t.statRequest b) { r with stat := t.display.stat.getLsbD b } where
  mode := (congrArg Display.mode (t.statRequest_display b)).trans h.mode
  clock := (congrArg Display.modeClock (t.statRequest_display b)).trans h.clock
  line := (congrArg Display.ly (t.statRequest_display b)).trans h.line
  events := (t.statRequest_events b).trans h.events
  intFlag := by
    rw [State.statRequest_intFlag, h.intFlag, hs]
    simp
  halted := by
    rw [State.statRequest_halted, h.halted, hs]
    simp [Bool.and_assoc]

/-- The coincidence requests as well, if it is enabled, whether or not a STAT source has (rule R316). -/
theorem State.Takes.coincidence :
    s.Takes t.coincidence
      { r with stat := r.stat || (decide (t.display.ly = t.display.lyc) && t.display.stat.getLsbD 6) } where
  mode := by rw [State.coincidence_display, Display.mode_setCoincidence, h.mode]
  clock := by
    rw [State.coincidence_display]
    exact h.clock
  line := by
    rw [State.coincidence_display]
    exact h.line
  events := t.coincidence_events.trans h.events
  intFlag := by
    rw [State.coincidence_intFlag, h.intFlag, BitVec.or_assoc]
    cases r.stat <;> cases decide (t.display.ly = t.display.lyc) && t.display.stat.getLsbD 6 <;> rfl
  halted := by
    rw [State.coincidence_halted, h.halted]
    simp [Bool.and_assoc]

end

/-! Each transition (rules R312 to R315). -/

section
variable (s : State)

theorem State.takes_enterMode (m : BitVec 2) :
    s.Takes (s.enterMode m) ⟨m, s.display.modeClock, s.display.ly, [], false, false⟩ where
  mode := Display.mode_setMode _ _
  clock := rfl
  line := rfl
  events := (List.append_nil _).symm
  intFlag := by simp [State.enterMode]
  halted := by simp [State.enterMode]

/-- A mode change keeps the source enables. -/
theorem State.takes_enterMode_statRequest (m : BitVec 2) {b : Nat} (h : 2 ≤ b) (h' : b < 8) :
    s.Takes ((s.enterMode m).statRequest b)
      ⟨m, s.display.modeClock, s.display.ly, [], false, s.display.stat.getLsbD b⟩ := by
  rw [← s.display.setMode_stat_bit m b h h']
  exact (s.takes_enterMode m).statRequest rfl b

theorem State.takes_endOamScan :
    s.Takes s.endOamScan ⟨3, s.display.modeClock - 80, s.display.ly, [], false, false⟩ :=
  ((s.consumeModeClock 80).takes_enterMode 3).of_eq rfl rfl rfl

theorem State.takes_endVramScan :
    s.Takes s.endVramScan
      ⟨0, s.display.modeClock - 172, s.display.ly, [.renderLine s.display.ly], false, s.display.stat.getLsbD 3⟩ := by
  unfold State.endVramScan State.consumeModeClock
  generalize s.display.modeClock - 172 = k
  have h := (State.emit { s with display := { s.display with modeClock := k } }
    (.renderLine s.display.ly)).takes_enterMode_statRequest 0 (b := 3) (by decide) (by decide)
  exact ⟨h.mode, h.clock, h.line, h.events.trans (List.append_nil _), h.intFlag, h.halted⟩

theorem State.takes_endHBlank :
    s.Takes s.endHBlank
      (if s.display.ly + 1 = 144 then
        ⟨1, s.display.modeClock - 204, s.display.ly + 1, [.presentFrame], true, s.display.stat.getLsbD 4⟩
      else ⟨2, s.display.modeClock - 204, s.display.ly + 1, [], false, s.display.stat.getLsbD 5⟩) := by
  unfold State.endHBlank State.consumeModeClock State.setLY
  generalize s.display.modeClock - 204 = k
  dsimp only
  refine State.Takes.of_eq (u := { s with display := { s.display with modeClock := k, ly := s.display.ly + 1 } }) ?_ rfl rfl rfl
  by_cases hl : s.display.ly + 1 = 144
  · rw [if_pos hl, if_pos hl, ← s.display.setMode_stat_bit 1 4 (by decide) (by decide)]
    exact (((State.takes_enterMode _ 1).raiseVBlank rfl rfl).emit .presentFrame).statRequest rfl 4
  · rw [if_neg hl, if_neg hl]
    exact State.takes_enterMode_statRequest _ 2 (by decide) (by decide)

theorem State.takes_endVBlankLine (hm : s.display.mode = 1) :
    s.Takes s.endVBlankLine
      (if s.display.ly + 1 = 154 then ⟨2, s.display.modeClock - 456, 0, [], false, s.display.stat.getLsbD 5⟩
      else ⟨1, s.display.modeClock - 456, s.display.ly + 1, [], false, false⟩) := by
  unfold State.endVBlankLine State.consumeModeClock State.setLY
  generalize s.display.modeClock - 456 = k
  dsimp only
  refine State.Takes.of_eq (u := { s with display := { s.display with modeClock := k, ly := s.display.ly + 1 } }) ?_ rfl rfl rfl
  by_cases hl : s.display.ly + 1 = 154
  · rw [if_pos hl, if_pos hl]
    exact (State.takes_enterMode_statRequest _ 2 (by decide) (by decide)).of_eq rfl rfl rfl
  · rw [if_neg hl, if_neg hl]
    exact ⟨hm, rfl, rfl, (List.append_nil _).symm, by simp, by simp⟩

/-- One evaluation of a mode makes the mode's transition (rule R310). -/
theorem State.modeEval_takes (c : Nat) : s.Takes (s.modeEval c) (s.display.transition c) := by
  have stay {m : BitVec 2} (hm : s.display.mode = m) (hn : s.display.modeClock + c < modeThreshold m) :
      s.Takes { s with display := { s.display with modeClock := s.display.modeClock + c } } (s.display.transition c) := by
    subst hm
    rw [Display.transition_of_lt hn]
    exact ⟨rfl, rfl, rfl, (List.append_nil _).symm, by simp, by simp⟩
  obtain ⟨e0, e1, e2, e3⟩ := s.modeEval_of_mode c
  rcases mode_cases s.display.mode with hm | hm | hm | hm
  · rw [e0 hm]
    dsimp only
    split
    · rw [Display.transition_hblank hm ‹_›]
      exact (State.takes_endHBlank _).of_eq rfl rfl rfl
    · exact stay hm (Nat.lt_of_not_le ‹_›)
  · rw [e1 hm]
    dsimp only
    split
    · rw [Display.transition_vblank hm ‹_›]
      refine State.Takes.of_eq (State.takes_endVBlankLine _ ?_) rfl rfl rfl
      exact hm
    · exact stay hm (Nat.lt_of_not_le ‹_›)
  · rw [e2 hm]
    dsimp only
    split
    · rw [Display.transition_oamScan hm ‹_›]
      exact (State.takes_endOamScan _).of_eq rfl rfl rfl
    · exact stay hm (Nat.lt_of_not_le ‹_›)
  · rw [e3 hm]
    dsimp only
    split
    · rw [Display.transition_vramScan hm ‹_›]
      exact (State.takes_endVramScan _).of_eq rfl rfl rfl
    · exact stay hm (Nat.lt_of_not_le ‹_›)

end

/-- An update keeps each source enable of STAT (rule R302). -/
theorem State.displayUpdate_enables (s : State) (c b : Nat) (h : 3 ≤ b) (h' : b < 8) :
    (s.displayUpdate c).display.stat.getLsbD b = s.display.stat.getLsbD b := by
  have hb : ∀ b, b < 8 → 3 ≤ b → (0xF8 : Byte).getLsbD b = true := by decide
  have e := congrArg (BitVec.getLsbD · b) (s.displayUpdate_stat c)
  simpa only [BitVec.getLsbD_and, hb b h' h, Bool.and_true] using e

/-- While the machine runs, every update makes the transition of its mode, and beside its requests the one of an enabled
coincidence, which is evaluated in every update (rules R310, R316). -/
theorem State.displayUpdate_takes {s : State} (c : Nat) (h : s.displayRuns) :
    s.Takes (s.displayUpdate c)
      { s.display.transition c with
        stat := (s.display.transition c).stat ||
          (decide ((s.displayUpdate c).display.ly = s.display.lyc) && s.display.stat.getLsbD 6) } := by
  obtain ⟨stat, ly, lyc, clock, -, -, flag, halted, events⟩ := s.dmaPhase_leaves c
  have hmode : (s.dmaPhase c).display.mode = s.display.mode := congrArg (fun b => BitVec.extractLsb' 0 2 b) stat
  have htr : (s.dmaPhase c).display.transition c = s.display.transition c := by
    simp only [Display.transition, hmode, stat, ly, clock]
  have hw : s.Takes ((s.dmaPhase c).modeEval c) (s.display.transition c) := by
    rw [← htr]
    exact ((s.dmaPhase c).modeEval_takes c).of_eq events flag halted
  have hframe := (s.dmaPhase c).modeEval_frame c
  have hlyc : ((s.dmaPhase c).modeEval c).display.lyc = s.display.lyc := by
    rw [hframe]
    exact lyc
  have hbit := State.displayUpdate_enables s c 6 (by decide) (by decide)
  rw [s.displayUpdate_of_runs c h, State.coincidence_display] at hbit ⊢
  rw [Display.setCoincidence_stat_bit _ _ 6 (by decide) (by decide)] at hbit
  rw [← hlyc, ← hbit]
  exact hw.coincidence

/-- Settles O50: each transition is one of `Display.transition`, and an update makes it by `State.displayUpdate_takes`. -/
theorem modeTransitions : Obligations.ModeTransitions := by
  unfold Obligations.ModeTransitions
  intro s c hr
  have h := State.displayUpdate_takes c hr
  dsimp only
  refine ⟨fun hm hn => ?_, fun hm hn => ?_, fun hm hn => ?_, fun hn => ?_⟩
  · rw [Display.transition_oamScan hm hn] at h
    exact ⟨h.mode, h.clock, h.line, h.events.trans (List.append_nil _), h.intFlag, h.halted⟩
  · rw [Display.transition_vramScan hm hn] at h
    exact ⟨h.mode, h.clock, h.line, h.events, h.intFlag, h.halted⟩
  · rw [Display.transition_hblank hm hn] at h
    by_cases hl : s.display.ly + 1 = 144
    · rw [if_pos hl] at h
      exact ⟨h.clock, h.line, fun _ => ⟨h.mode, h.events, h.intFlag, h.halted⟩, fun hn => absurd hl hn⟩
    · rw [if_neg hl] at h
      exact ⟨h.clock, h.line, fun hp => absurd hp hl,
        fun _ => ⟨h.mode, h.events.trans (List.append_nil _), h.intFlag, h.halted⟩⟩
  · rw [Display.transition_of_lt hn] at h
    exact ⟨h.mode, h.clock, h.line, h.events.trans (List.append_nil _), h.intFlag, h.halted⟩

/-- The requests of a transition, by the mode that ends and the line (rule R319). -/
theorem Display.transition_requests (d : Display) (c : Nat) :
    let n := d.modeClock + c
    let vblank := decide (d.mode = 0 ∧ 204 ≤ n ∧ d.ly + 1 = 144)
    (d.transition c).vblank = vblank ∧
      (d.transition c).stat =
        ((vblank && d.stat.getLsbD 4) || (decide (d.mode = 3 ∧ 172 ≤ n) && d.stat.getLsbD 3) ||
          ((decide (d.mode = 0 ∧ 204 ≤ n ∧ d.ly + 1 ≠ 144) || decide (d.mode = 1 ∧ 456 ≤ n ∧ d.ly + 1 = 154)) &&
            d.stat.getLsbD 5)) := by
  have stay {m : BitVec 2} (hm : d.mode = m) (h : ¬ modeThreshold m ≤ d.modeClock + c) :
      d.transition c = ⟨m, d.modeClock + c, d.ly, [], false, false⟩ := by
    subst hm
    exact Display.transition_of_lt (Nat.lt_of_not_le h)
  dsimp only
  rcases mode_cases d.mode with hm | hm | hm | hm
  · by_cases h : 204 ≤ d.modeClock + c
    · rw [Display.transition_hblank hm h]
      by_cases hl : d.ly + 1#8 = 144#8 <;> simp [hm, h, hl]
    · simp [stay hm h, hm, h]
  · by_cases h : 456 ≤ d.modeClock + c
    · rw [Display.transition_vblank hm h]
      by_cases hl : d.ly + 1#8 = 154#8 <;> simp [hm, h, hl]
    · simp [stay hm h, hm, h]
  · by_cases h : 80 ≤ d.modeClock + c
    · simp [Display.transition_oamScan hm h, hm]
    · simp [stay hm h, hm]
  · by_cases h : 172 ≤ d.modeClock + c
    · simp [Display.transition_vramScan hm h, hm, h]
    · simp [stay hm h, hm, h]

/-- Settles O51: an update makes the requests of its transition (`State.displayUpdate_takes`), which are these. -/
theorem displayRequests : Obligations.DisplayRequests := by
  unfold Obligations.DisplayRequests
  intro s c hr
  have h := State.displayUpdate_takes c hr
  obtain ⟨hv, hs⟩ := s.display.transition_requests c
  dsimp only
  rw [h.intFlag, h.halted, ← hv, hs, hv]
  exact ⟨rfl, rfl⟩

/-- Settles O52: the lines of VBlank by the transition of mode 1 (`Display.transition_vblank`); the coincidence bit is what
`State.coincidence` sets last; a held display is `State.displayHeld` after the transfer phase. -/
theorem vBlankLinesAndHold : Obligations.VBlankLinesAndHold := by
  unfold Obligations.VBlankLinesAndHold
  intro s c
  dsimp only
  refine ⟨fun hr hm hn => ?_, fun hr => ?_, fun hr => ?_⟩
  · have h := State.displayUpdate_takes c hr
    rw [Display.transition_vblank hm hn] at h
    by_cases hl : s.display.ly + 1 = 154
    · rw [if_pos hl] at h
      exact ⟨h.clock, h.events.trans (List.append_nil _), fun _ => ⟨h.line, h.mode⟩, fun hn => absurd hl hn⟩
    · rw [if_neg hl] at h
      exact ⟨h.clock, h.events.trans (List.append_nil _), fun hp => absurd hp hl, fun _ => ⟨h.line, h.mode⟩⟩
  · rw [s.displayUpdate_of_runs c hr, State.coincidence_display]
    exact Display.setCoincidence_stat_bit2 _ _
  · obtain ⟨stat, -, -, -, -, -, flag, halted, events⟩ := s.dmaPhase_leaves c
    rw [s.displayUpdate_of_held c hr]
    refine ⟨rfl, rfl, Display.mode_setMode _ _, ?_, flag, halted, events⟩
    rw [← stat]
    exact Display.setMode_stat_bit _ 0 2 (by decide) (by decide)

/-- Settles O53: the transfer's fields are as the transfer phase leaves them (`State.displayUpdate_transfer`), the bytes are
those of `State.dmaBytes_copy`, and the frame is `State.displayUpdate_eq` with `State.displayUpdate_stat`. -/
theorem oamTransfer : Obligations.OamTransfer := by
  unfold Obligations.OamTransfer
  intro s c
  dsimp only
  obtain ⟨oam, pending, budget, draws⟩ := s.displayUpdate_transfer c
  rw [oam, pending, budget, draws, s.dmaPhase_oam, s.dmaPhase_draws, s.dmaPhase_display]
  refine ⟨fun hp => ?_, fun hp => ?_, s.displayUpdate_stat c, s.displayUpdate_eq c⟩
  · simp only [hp, if_true]
    obtain ⟨-, copy⟩ := s.dmaBytes_copy s.display.dma 160 (Nat.le_refl 160)
    exact ⟨trivial, trivial, copy, s.dmaBytes_draws s.display.dma 160⟩
  · simp [hp]

end Sys2Proof.Machine
end

section
/-! The cartridge (rules R350 to R394): the control writes of each variant by range, the two ROM windows, and the RAM window by
what it reaches. -/

namespace Sys2Proof.Machine

/-! Control writes (rules R366 to R372, R376 to R379). -/

/-- A ROM bank selector takes the low bits of the byte written, 0 being taken as 1. -/
theorem coerceBank_lowBits (v : Byte) (w : Nat) :
    coerceBank (v.extractLsb' 0 w) = BitVec.ofNat w (max 1 (v.toNat % 2 ^ w)) := by
  rw [coerceBank_eq, lowBits_eq, BitVec.toNat_ofNat, Nat.mod_mod]

section
variable {a : Nat} (v : Byte)

theorem Mbc1.control_enable (m : Mbc1) (h : a ≤ 0x1FFF) :
    m.control a v = { m with ramEnabled := decide (v.toNat % 16 = 10) } := by
  rw [Mbc1.control, if_pos h, enables_eq]

theorem Mbc1.control_romBank (m : Mbc1) (h1 : 0x2000 ≤ a) (h2 : a ≤ 0x3FFF) :
    m.control a v = { m with romBank5 := BitVec.ofNat 5 (max 1 (v.toNat % 32)) } := by
  rw [Mbc1.control, if_neg (by omega), if_pos h2, coerceBank_lowBits]
  rfl

theorem Mbc1.control_upper (m : Mbc1) (h1 : 0x4000 ≤ a) (h2 : a ≤ 0x5FFF) :
    m.control a v = { m with upper2 := BitVec.ofNat 2 (v.toNat % 4) } := by
  rw [Mbc1.control, if_neg (by omega), if_neg (by omega), if_pos h2, lowBits_eq]
  rfl

theorem Mbc1.control_mode (m : Mbc1) (h : 0x6000 ≤ a) :
    m.control a v = { m with mode := BitVec.ofNat 1 (v.toNat % 2) } := by
  rw [Mbc1.control, if_neg (by omega), if_neg (by omega), if_neg (by omega), lowBits_eq]
  rfl

theorem Mbc2.control_enable (m : Mbc2) (h : a ≤ 0x3FFF) (h8 : a.testBit 8 = false) :
    m.control a v = { m with ramEnabled := decide (v.toNat % 16 = 10) } := by
  rw [Mbc2.control, if_pos h, if_neg (by simp [h8]), enables_eq]

theorem Mbc2.control_romBank (m : Mbc2) (h : a ≤ 0x3FFF) (h8 : a.testBit 8 = true) :
    m.control a v = { m with romBank4 := BitVec.ofNat 4 (max 1 (v.toNat % 16)) } := by
  rw [Mbc2.control, if_pos h, if_pos h8, coerceBank_lowBits]
  rfl

theorem Mbc2.control_none (m : Mbc2) (h : 0x4000 ≤ a) : m.control a v = m := by
  rw [Mbc2.control, if_neg (by omega)]

theorem Mbc3.control_enable (m : Mbc3) (h : a ≤ 0x1FFF) :
    m.control a v = { m with ramEnabled := decide (v.toNat % 16 = 10) } := by
  rw [Mbc3.control, if_pos h, enables_eq]

theorem Mbc3.control_romBank (m : Mbc3) (h1 : 0x2000 ≤ a) (h2 : a ≤ 0x3FFF) :
    m.control a v = { m with romBank7 := BitVec.ofNat 7 (max 1 (v.toNat % 128)) } := by
  rw [Mbc3.control, if_neg (by omega), if_pos h2, coerceBank_lowBits]
  rfl

theorem Mbc3.control_select (m : Mbc3) (h1 : 0x4000 ≤ a) (h2 : a ≤ 0x5FFF) :
    m.control a v = { m with ramRtcSelect := BitVec.ofNat 4 (v.toNat % 16) } := by
  rw [Mbc3.control, if_neg (by omega), if_neg (by omega), if_pos h2, lowBits_eq]
  rfl

theorem Mbc3.control_latch (m : Mbc3) (h : 0x6000 ≤ a) : m.control a v = { m with latchLast := v } := by
  rw [Mbc3.control, if_neg (by omega), if_neg (by omega), if_neg (by omega)]

end

/-! The ROM windows (rules R354, R355). -/

section
variable {s : State} {a x : Word} (v : Byte)

theorem State.busRead_romFixed (h : a.toNat ≤ 0x3FFF) : s.busRead a = s.params.rom.read a.toNat := by
  rw [s.busRead_rom (by omega), romOffset_fixed _ _ h]

theorem State.busRead_romBanked (h1 : 0x4000 ≤ a.toNat) (h2 : a.toNat ≤ 0x7FFF) :
    s.busRead a = s.params.rom.read ((s.mbc.romBank * 0x4000 + (a.toNat - 0x4000)) % s.params.romSize) := by
  rw [s.busRead_rom h2, romOffset, if_neg (by omega)]

theorem State.busWrite_rom_type1 {m : Mbc1} (hm : s.mbc = .type1 m) (h : x.toNat ≤ 0x7FFF) :
    s.busWrite x v = { s with mbc := .type1 (m.control x.toNat v) } := by
  rw [s.busWrite_rom v h, hm, Mbc.control]

theorem State.busWrite_rom_type2 {m : Mbc2} (hm : s.mbc = .type2 m) (h : x.toNat ≤ 0x7FFF) :
    s.busWrite x v = { s with mbc := .type2 (m.control x.toNat v) } := by
  rw [s.busWrite_rom v h, hm, Mbc.control]

theorem State.busWrite_rom_type3 {m : Mbc3} (hm : s.mbc = .type3 m) (h : x.toNat ≤ 0x7FFF) :
    s.busWrite x v = { s with mbc := .type3 (m.control x.toNat v) } := by
  rw [s.busWrite_rom v h, hm, Mbc.control]

/-- Writing back the controller that is there changes nothing. -/
theorem State.with_mbc_eq {m : Mbc} (hm : s.mbc = m) : ({ s with mbc := m } : State) = s := by
  rw [← hm]

end

/-- Settles O45: without a controller the banked window shows bank 1, so both windows together are the image at the address. -/
theorem romOnly : Obligations.RomOnly := by
  unfold Obligations.RomOnly
  intro s a v hm hok
  refine ⟨fun h => ⟨?_, ?_⟩, fun h1 h2 => s.ramWindow_nothing v (region_cartRam h1 h2) (by rw [hm]; rfl)⟩
  · rw [s.busWrite_rom v h, hm]
    exact State.with_mbc_eq hm
  · by_cases h' : a.toNat ≤ 0x3FFF
    · simp only [Params.romSizeOk, Bool.and_eq_true, decide_eq_true_eq] at hok
      obtain ⟨-, hsize⟩ := hok
      rw [State.busRead_romFixed h', Nat.mod_eq_of_lt (by omega)]
    · have hoff : 1 * 0x4000 + (a.toNat - 0x4000) = a.toNat := by omega
      rw [State.busRead_romBanked (by omega) h, hm, Mbc.romBank, hoff]

/-- Settles O60: each range by the lemma of its control write, each window by its read. -/
theorem bankRegisters : Obligations.BankRegisters := by
  unfold Obligations.BankRegisters
  intro s x v hx
  dsimp only
  refine ⟨State.busRead_romFixed, fun m hm => ?_, fun m hm => ?_, fun m hm => ?_⟩
  · rw [s.busWrite_rom_type1 v hm hx]
    refine ⟨fun h => ?_, fun h1 h2 => ?_, fun h1 h2 => ?_, fun h => ?_, fun h => ?_⟩
    · rw [Mbc1.control_enable v m h]
    · rw [Mbc1.control_romBank v m h1 h2]
    · rw [Mbc1.control_upper v m h1 h2]
    · rw [Mbc1.control_mode v m h]
    · rw [State.busRead_romBanked h hx, hm, Mbc.romBank]
  · rw [s.busWrite_rom_type2 v hm hx]
    refine ⟨fun h h8 => ?_, fun h h8 => ?_, fun h => ⟨?_, ?_⟩⟩
    · rw [Mbc2.control_enable v m h h8]
    · rw [Mbc2.control_romBank v m h h8]
    · rw [Mbc2.control_none v m h]
      exact State.with_mbc_eq hm
    · rw [State.busRead_romBanked h hx, hm, Mbc.romBank]
  · rw [s.busWrite_rom_type3 v hm hx]
    refine ⟨fun h => ?_, fun h1 h2 => ?_, fun h1 h2 => ?_, fun h => ?_, fun h => ?_⟩
    · rw [Mbc3.control_enable v m h]
    · rw [Mbc3.control_romBank v m h1 h2]
    · rw [Mbc3.control_select v m h1 h2]
    · rw [Mbc3.control_latch v m h]
    · rw [State.busRead_romBanked h hx, hm, Mbc.romBank]

/-- A selected bank fits its register. -/
theorem toNat_selectedBank (n : Nat) {w k : Nat} (hk : 1 < k) (hw : k ≤ 2 ^ w) :
    (BitVec.ofNat w (max 1 (n % k))).toNat = max 1 (n % k) := by
  have := Nat.mod_lt n (Nat.zero_lt_of_lt hk)
  rw [BitVec.toNat_ofNat, Nat.mod_eq_of_lt (by omega)]

/-- Settles O46: the select range writes the selector (`Mbc1.control_romBank` and its likes), which the switchable window then
shows; 0 and 1 select alike. -/
theorem romBankSelect : Obligations.RomBankSelect := by
  unfold Obligations.RomBankSelect
  refine ⟨fun s x a v h1 h2 => ?_, fun s x hx => ⟨fun hv hlo => ?_, fun hv h8 => ?_⟩⟩
  · dsimp only
    refine ⟨fun m hm hlo hhi => ?_, fun m hm hhi h8 => ?_, fun m hm hlo hhi => ?_⟩
    · rw [s.busWrite_rom_type1 v hm (by omega), Mbc1.control_romBank v m hlo hhi, State.busRead_romBanked h1 h2]
      simp (disch := decide) only [Mbc.romBank, toNat_selectedBank]
      split <;> simp
    · rw [s.busWrite_rom_type2 v hm (by omega), Mbc2.control_romBank v m hhi h8, State.busRead_romBanked h1 h2]
      simp (disch := decide) only [Mbc.romBank, toNat_selectedBank]
    · rw [s.busWrite_rom_type3 v hm (by omega), Mbc3.control_romBank v m hlo hhi, State.busRead_romBanked h1 h2]
      simp (disch := decide) only [Mbc.romBank, toNat_selectedBank]
  · cases hm : s.mbc with
    | type1 m =>
      rw [s.busWrite_rom_type1 _ hm (by omega), s.busWrite_rom_type1 _ hm (by omega), Mbc1.control_romBank _ m hlo hx,
        Mbc1.control_romBank _ m hlo hx]
      rfl
    | type3 m =>
      rw [s.busWrite_rom_type3 _ hm (by omega), s.busWrite_rom_type3 _ hm (by omega), Mbc3.control_romBank _ m hlo hx,
        Mbc3.control_romBank _ m hlo hx]
      rfl
    | _ =>
      rw [hm] at hv
      simp [Mbc.variant] at hv
  · cases hm : s.mbc with
    | type2 m =>
      rw [s.busWrite_rom_type2 _ hm (by omega), s.busWrite_rom_type2 _ hm (by omega), Mbc2.control_romBank _ m hx h8,
        Mbc2.control_romBank _ m hx h8]
      rfl
    | _ =>
      rw [hm] at hv
      cases hv

/-! The RAM window (rules R356, R357). -/

section
variable {s : State} {a x : Word} (v : Byte) {i : Nat}

/-- Where the window reaches a byte of cartridge RAM, that byte is read and written. -/
theorem State.cell_access (ha : region a = .cartRam) (h : ramTarget s.params s.mbc a.toNat = .cell i) :
    s.busRead a = s.cram.read i ∧ s.busWrite a v = { s with cram := s.cram.write i v } ∧ (s.busWrite a v).busRead a = v := by
  have hb : s.readsBack a := by
    unfold State.readsBack
    rw [ha]
    exact ⟨i, h⟩
  refine ⟨?_, ?_, s.busRead_busWrite_same v hb⟩
  · unfold State.busRead State.readCartRam
    rw [ha, h]
  · unfold State.busWrite State.writeCartRam
    rw [ha, h]

/-- A 4-bit cell reads with ones above it and keeps the low nibble written (rules R370, R373). -/
theorem State.nibble_access (ha : region a = .cartRam) (h : ramTarget s.params s.mbc a.toNat = .nibble i) :
    s.busRead a = (0xF0 : Byte) ||| s.cram.read i ∧ s.busWrite a v = { s with cram := s.cram.write i (v &&& 0x0F) } := by
  unfold State.busRead State.busWrite State.readCartRam State.writeCartRam
  rw [ha, h]
  exact ⟨rfl, rfl⟩

/-- A clock register is read and written whole (rule R380). -/
theorem State.clock_access {m : Mbc3} (hm : s.mbc = .type3 m) (ha : region a = .cartRam)
    (h : ramTarget s.params s.mbc a.toNat = .clock i) :
    s.busRead a = m.rtc.get i ∧ s.busWrite a v = { s with mbc := .type3 { m with rtc := m.rtc.set i v } } := by
  unfold State.busRead State.busWrite State.readCartRam State.writeCartRam
  rw [ha, h, hm]
  exact ⟨rfl, rfl⟩

end

/-! What the window reaches, by variant. -/

section
variable {p : Params} {a : Nat}

theorem ramTarget_type1 {m : Mbc1} (h : m.ramEnabled = true) :
    ramTarget p (.type1 m) a = bankedCell (ramSize p) (if m.mode = 1 then m.upper2.toNat else 0) a := if_pos h

theorem ramTarget_type2 {m : Mbc2} (h : m.ramEnabled = true) :
    ramTarget p (.type2 m) a = .nibble ((a - 0xA000) % 512) := if_pos h

theorem ramTarget_type3_ram {m : Mbc3} (h : m.ramEnabled = true) (hs : m.ramRtcSelect.toNat ≤ 3) :
    ramTarget p (.type3 m) a = bankedCell (ramSize p) m.ramRtcSelect.toNat a := (if_pos h).trans (if_pos hs)

theorem ramTarget_type3_clock {m : Mbc3} (h : m.ramEnabled = true) (h1 : 8 ≤ m.ramRtcSelect.toNat)
    (h2 : m.ramRtcSelect.toNat ≤ 12) : ramTarget p (.type3 m) a = .clock (m.ramRtcSelect.toNat - 8) :=
  (if_pos h).trans ((if_neg (by omega)).trans (if_pos ⟨h1, h2⟩))

/-- Disabled RAM is not there (rule R354 (c)). -/
theorem ramTarget_disabled {m : Mbc}
    (h : (∃ r, m = .type1 r ∧ r.ramEnabled = false) ∨ (∃ r, m = .type2 r ∧ r.ramEnabled = false) ∨
      (∃ r, m = .type3 r ∧ r.ramEnabled = false)) : ramTarget p m a = .nothing := by
  obtain ⟨r, rfl, h⟩ | ⟨r, rfl, h⟩ | ⟨r, rfl, h⟩ := h <;> exact if_neg (by simp [h])

theorem bankedCell_zero (bank : Nat) : bankedCell 0 bank a = .nothing := if_pos rfl

theorem bankedCell_pos {size : Nat} (h : 0 < size) (bank : Nat) :
    bankedCell size bank a = .cell ((bank * 0x2000 + (a - 0xA000)) % size) := if_neg (Nat.ne_of_gt h)

/-- Without storage a type 1 cartridge has no RAM, enabled or not. -/
theorem ramTarget_type1_of_no_ram (m : Mbc1) (h : ramSize p = 0) : ramTarget p (.type1 m) a = .nothing := by
  cases he : m.ramEnabled
  · exact ramTarget_disabled (.inl ⟨m, rfl, he⟩)
  · rw [ramTarget_type1 he, h, bankedCell_zero]

theorem ramTarget_type3_of_no_ram {m : Mbc3} (hs : m.ramRtcSelect.toNat ≤ 3) (h : ramSize p = 0) :
    ramTarget p (.type3 m) a = .nothing := by
  cases he : m.ramEnabled
  · exact ramTarget_disabled (.inr (.inr ⟨m, rfl, he⟩))
  · rw [ramTarget_type3_ram he hs, h, bankedCell_zero]

/-- A select of type 3 that is neither a bank nor a clock register reaches nothing (rule R378). -/
theorem ramTarget_type3_unmapped {m : Mbc3}
    (hs : (4 ≤ m.ramRtcSelect.toNat ∧ m.ramRtcSelect.toNat ≤ 7) ∨ 13 ≤ m.ramRtcSelect.toNat) :
    ramTarget p (.type3 m) a = .nothing := by
  cases he : m.ramEnabled
  · exact ramTarget_disabled (.inr (.inr ⟨m, rfl, he⟩))
  · exact (if_pos he).trans ((if_neg (by omega)).trans (if_neg (by omega)))

end

/-- The RAM of type 2 is 512 nibble cells, repeating through the window (rule R370). -/
theorem State.type2_access {s : State} {m : Mbc2} {a : Word} (v : Byte) (hm : s.mbc = .type2 m) (he : m.ramEnabled = true)
    (h1 : 0xA000 ≤ a.toNat) (h2 : a.toNat ≤ 0xBFFF) :
    s.busRead a = (0xF0 : Byte) ||| s.cram.read ((a.toNat - 0xA000) % 512) ∧
      s.busWrite a v = { s with cram := s.cram.write ((a.toNat - 0xA000) % 512) (v &&& 0x0F) } :=
  State.nibble_access v (region_cartRam h1 h2) (by rw [hm, ramTarget_type2 he])

/-- Settles O47: both accesses are `State.type2_access`, and two addresses have one cell exactly if they are equal modulo
512. -/
theorem nibbleRam : Obligations.NibbleRam := by
  unfold Obligations.NibbleRam
  intro s m x a v hm he hx1 hx2 ha1 ha2
  obtain ⟨-, hw⟩ := State.type2_access v hm he hx1 hx2
  obtain ⟨hr, -⟩ := State.type2_access v hm he ha1 ha2
  have hrw : (s.busWrite x v).busRead a =
      (0xF0 : Byte) ||| (s.cram.write ((x.toNat - 0xA000) % 512) (v &&& 0x0F)).read ((a.toNat - 0xA000) % 512) := by
    rw [hw]
    obtain ⟨h, -⟩ := State.type2_access
      (s := { s with cram := s.cram.write ((x.toNat - 0xA000) % 512) (v &&& 0x0F) }) v hm he ha1 ha2
    exact h
  refine ⟨hw, hr, fun h => ?_, fun h => ?_⟩
  · have hc : (x.toNat - 0xA000) % 512 = (a.toNat - 0xA000) % 512 := by omega
    rw [hrw, hc, Memory.read_write_same]
  · rw [hrw, hr, Memory.read_write_ne _ (by omega)]

/-- A clock register reads back what was written. -/
theorem Rtc.get_set_same (r : Rtc) {k : Nat} (v : Byte) (h : k < 5) : (r.set k v).get k = v := by
  rw [Rtc.get_set r k k v h h, if_pos rfl]

/-- Settles O48: the enable register by its control writes, and each case of the window by what it reaches. -/
theorem ramWindow : Obligations.RamWindow := by
  unfold Obligations.RamWindow
  refine ⟨fun s x v hx => ⟨fun m hm => ?_, fun m hm => ?_⟩, fun s a v h1 h2 => ?_⟩
  · rw [s.busWrite_rom_type1 v hm (by omega), Mbc1.control_enable v m hx]
  · rw [s.busWrite_rom_type3 v hm (by omega), Mbc3.control_enable v m hx]
  have ha := region_cartRam h1 h2
  refine ⟨fun h => ?_, fun m hm h0 => ?_, fun m hm hs h0 => ?_, fun m hm hs => ?_, fun m hm he h0 => ?_,
    fun m hm he hs h0 => ?_, fun m hm he hs1 hs2 => ?_⟩
  · exact s.ramWindow_nothing v ha (ramTarget_disabled h)
  · exact s.ramWindow_nothing v ha (by rw [hm, ramTarget_type1_of_no_ram m h0])
  · exact s.ramWindow_nothing v ha (by rw [hm, ramTarget_type3_of_no_ram hs h0])
  · exact s.ramWindow_nothing v ha (by rw [hm, ramTarget_type3_unmapped hs])
  · exact State.cell_access v ha (by rw [hm, ramTarget_type1 he, bankedCell_pos h0])
  · exact State.cell_access v ha (by rw [hm, ramTarget_type3_ram he hs, bankedCell_pos h0])
  · obtain ⟨hr, hw⟩ := State.clock_access v hm ha (by rw [hm, ramTarget_type3_clock he hs1 hs2])
    refine ⟨hr, hw, fun b hb1 hb2 => ?_⟩
    rw [hw]
    obtain ⟨hr', -⟩ := State.clock_access
      (s := { s with mbc := .type3 { m with rtc := m.rtc.set (m.ramRtcSelect.toNat - 8) v } }) v rfl (region_cartRam hb1 hb2) (ramTarget_type3_clock he hs1 hs2)
    rw [hr']
    exact Rtc.get_set_same _ v (by omega)

end Sys2Proof.Machine
end

section
/-! The timer (rules R400 to R405): the two loops of rule R405 subtract a period a turn, so they leave the remainder and count
the quotient, which is the closed form of `State.timerUpdate`. -/

namespace Sys2Proof.Machine

/-- The divider's loop, with fuel for every turn. -/
theorem divLoop_eq (fuel : Nat) (t : Timer) (h : t.divClock / 256 ≤ fuel) :
    divLoop fuel t =
      { t with divClock := t.divClock % 256, div := t.div + BitVec.ofNat 8 (t.divClock / 256) } := by
  induction fuel generalizing t with
  | zero =>
    have h0 : t.divClock / 256 = 0 := by omega
    have hm : t.divClock % 256 = t.divClock := by omega
    simp [divLoop, h0, hm]
  | succ fuel ih =>
    rw [divLoop]
    split
    · have hq : t.divClock / 256 = (t.divClock - 256) / 256 + 1 := by omega
      have hr : (t.divClock - 256) % 256 = t.divClock % 256 := by omega
      have hd : t.div + 1 + BitVec.ofNat 8 ((t.divClock - 256) / 256) = t.div + BitVec.ofNat 8 (t.divClock / 256) := by
        rw [hq, BitVec.add_assoc, BitVec.add_comm 1, BitVec.ofNat_add]
        rfl
      rw [ih _ (by dsimp only; omega)]
      dsimp only
      rw [hr, hd]
    · have h0 : t.divClock / 256 = 0 := by omega
      have hm : t.divClock % 256 = t.divClock := by omega
      simp [h0, hm]

section
variable (s : State)

/-- The counter's clock set to `n`. -/
def State.setTimaClock (n : Nat) : State := { s with timer := { s.timer with timaClock := n } }

theorem State.timaUpdate_eq (c : Nat) : s.timaUpdate c =
    if s.timer.tac.getLsbD 2 then
      State.timaCounts ((s.timer.timaClock + c) / timaPeriod s.timer.tac)
        (s.setTimaClock ((s.timer.timaClock + c) % timaPeriod s.timer.tac))
    else s := rfl

/-- A count does not depend on the counter's clock. -/
theorem State.timaCount_setTimaClock (n : Nat) : (s.setTimaClock n).timaCount = s.timaCount.setTimaClock n := by
  have h : (s.setTimaClock n).timer.tima = s.timer.tima := rfl
  rw [State.timaCount, State.timaCount, h]
  split <;> rfl

/-- A count leaves the counter's period alone. -/
theorem State.timaCount_tac : s.timaCount.timer.tac = s.timer.tac := by
  unfold State.timaCount
  split <;> rfl

/-- A turn of the counter's loop counts once and takes a period off the clock. -/
theorem timaLoop_succ (fuel : Nat) (h : timaPeriod s.timer.tac ≤ s.timer.timaClock) :
    timaLoop (fuel + 1) s =
      timaLoop fuel (s.timaCount.setTimaClock (s.timer.timaClock - timaPeriod s.timer.tac)) := by
  rw [timaLoop]
  dsimp only
  rw [if_pos h, State.timaCount]
  split <;> rfl

/-- The counter's loop, with fuel for every turn. -/
theorem timaLoop_eq (fuel : Nat) (h : s.timer.timaClock / timaPeriod s.timer.tac ≤ fuel) :
    timaLoop fuel s =
      State.timaCounts (s.timer.timaClock / timaPeriod s.timer.tac)
        (s.setTimaClock (s.timer.timaClock % timaPeriod s.timer.tac)) := by
  have done {u : State} (hu : u.timer.timaClock < timaPeriod u.timer.tac) :
      State.timaCounts (u.timer.timaClock / timaPeriod u.timer.tac)
        (u.setTimaClock (u.timer.timaClock % timaPeriod u.timer.tac)) = u := by
    rw [Nat.div_eq_of_lt hu, Nat.mod_eq_of_lt hu]
    rfl
  induction fuel generalizing s with
  | zero =>
    obtain ⟨hpos, -⟩ := timaPeriod_range s.timer.tac
    rw [done (Nat.lt_of_div_eq_zero hpos (Nat.le_zero.1 h)), timaLoop]
  | succ fuel ih =>
    obtain ⟨hpos, -⟩ := timaPeriod_range s.timer.tac
    by_cases hp : timaPeriod s.timer.tac ≤ s.timer.timaClock
    · have hq := Nat.div_eq_sub_div hpos hp
      have hclock (n : Nat) : (s.timaCount.setTimaClock n).timer.timaClock = n := rfl
      have htac (n : Nat) : (s.timaCount.setTimaClock n).timer.tac = s.timer.tac := s.timaCount_tac
      rw [timaLoop_succ s fuel hp, ih _ (by rw [hclock, htac]; omega), hclock, htac, hq, Nat.mod_eq_sub_mod hp]
      exact congrArg (State.timaCounts _) (s.timaCount_setTimaClock _).symm
    · rw [done (Nat.lt_of_not_le hp), timaLoop]
      exact if_neg hp

/-- The counter's part leaves the divider alone. -/
theorem State.timerUpdate_divider (c : Nat) :
    (s.timerUpdate c).timer.div = s.timer.div + BitVec.ofNat 8 ((s.timer.divClock + c) / 256) ∧
      (s.timerUpdate c).timer.divClock = (s.timer.divClock + c) % 256 := by
  unfold State.timerUpdate State.timaUpdate
  split
  · obtain ⟨_, _, _, e⟩ := State.timaCounts_eq _ _
    dsimp only
    rw [e]
    exact ⟨rfl, rfl⟩
  · exact ⟨rfl, rfl⟩

/-- The loops of rule R405, the divider's in closed form: its fuel suffices, since it makes no more turns than cycles. -/
theorem timerLoops_eq (c : Nat) : timerLoops s c =
    if (s.divUpdate c).timer.tac.getLsbD 2 then
      timaLoop (c + s.timer.timaClock) ((s.divUpdate c).setTimaClock (s.timer.timaClock + c))
    else s.divUpdate c := by
  have fuel : (s.timer.divClock + c) / 256 ≤ c + s.timer.divClock := by omega
  unfold timerLoops
  rw [divLoop_eq _ _ fuel]
  rfl

end

/-- Settles O49: both loops have fuel for all their turns (`timerLoops_eq`, `timaLoop_eq`), and DIV counts the quotient of which
its clock is the remainder (`State.timerUpdate_divider`). -/
theorem timerMatchesLoops : Obligations.TimerMatchesLoops := by
  unfold Obligations.TimerMatchesLoops
  refine fun s c => ⟨?_, fun _ => ⟨s.timerUpdate_divClock_lt c, ?_⟩⟩
  · rw [timerLoops_eq, State.timerUpdate, State.timaUpdate_eq]
    split
    · have fuel : (s.timer.timaClock + c) / timaPeriod s.timer.tac ≤ c + s.timer.timaClock :=
        Nat.add_comm c _ ▸ Nat.div_le_self _ _
      rw [timaLoop_eq ((s.divUpdate c).setTimaClock (s.timer.timaClock + c)) _ fuel]
      rfl
    · rfl
  · obtain ⟨hdiv, hclock⟩ := s.timerUpdate_divider c
    have := s.timer.div.isLt
    rw [hdiv, hclock, BitVec.toNat_add, BitVec.toNat_ofNat]
    omega

end Sys2Proof.Machine
end

section
/-! The machine with another firmware image (rules R66, R67, R455): with the overlay off every part of a step is the same, and
carries the image along. -/

namespace Sys2Proof.Machine

open Sys2Proof.Laws

section
variable (s : State) (m : Memory)

@[simp] theorem State.withFirmware_regs : (s.withFirmware m).regs = s.regs := rfl
@[simp] theorem State.withFirmware_ime : (s.withFirmware m).ime = s.ime := rfl
@[simp] theorem State.withFirmware_halted : (s.withFirmware m).halted = s.halted := rfl
@[simp] theorem State.withFirmware_bootActive : (s.withFirmware m).bootActive = s.bootActive := rfl
@[simp] theorem State.withFirmware_fault : (s.withFirmware m).fault = s.fault := rfl
@[simp] theorem State.withFirmware_cycles : (s.withFirmware m).cycles = s.cycles := rfl
@[simp] theorem State.withFirmware_display : (s.withFirmware m).display = s.display := rfl
@[simp] theorem State.withFirmware_timer : (s.withFirmware m).timer = s.timer := rfl
@[simp] theorem State.withFirmware_pending : (s.withFirmware m).pending = s.pending := rfl

/-! Accesses. -/

@[simp] theorem State.withFirmware_busRead (a : Word) : (s.withFirmware m).busRead a = s.busRead a := by
  unfold State.busRead
  cases region a <;> rfl

@[simp] theorem State.withFirmware_afterRead (a : Word) :
    (s.withFirmware m).afterRead a = (s.afterRead a).withFirmware m := by
  unfold State.afterRead
  cases region a <;> rfl

@[simp] theorem State.withFirmware_writeCartRam (a : Word) (v : Byte) :
    (s.withFirmware m).writeCartRam a v = (s.writeCartRam a v).withFirmware m := by
  have h : ramTarget (s.withFirmware m).params (s.withFirmware m).mbc a.toNat = ramTarget s.params s.mbc a.toNat := rfl
  unfold State.writeCartRam
  rw [h]
  cases ramTarget s.params s.mbc a.toNat <;> rfl

@[simp] theorem State.withFirmware_busWrite (a : Word) (v : Byte) :
    (s.withFirmware m).busWrite a v = (s.busWrite a v).withFirmware m := by
  unfold State.busWrite
  cases region a with
  | cartRam => exact s.withFirmware_writeCartRam m a v
  | bootLock =>
    dsimp only
    split <;> rfl
  | _ => rfl

@[simp] theorem State.withFirmware_memWrite (a : Word) (v : Byte) :
    (s.withFirmware m).memWrite a v = (s.memWrite a v).withFirmware m :=
  s.withFirmware_busWrite m a v

@[simp] theorem State.withFirmware_push16 (w : Word) :
    (s.withFirmware m).push16 w = (s.push16 w).withFirmware m := by
  simp only [State.push16_eq, State.withFirmware_busWrite, State.withFirmware_regs]
  rfl

theorem State.withFirmware_writeOpnd (o : Opnd) (v : Byte) :
    (s.withFirmware m).writeOpnd o v = (s.writeOpnd o v).withFirmware m := by
  cases o with
  | reg r => rfl
  | atHL => exact s.withFirmware_busWrite m _ v

theorem State.withFirmware_afterReadOpnd (o : Opnd) :
    (s.withFirmware m).afterReadOpnd o = (s.afterReadOpnd o).withFirmware m := by
  cases o with
  | reg r => rfl
  | atHL => exact s.withFirmware_afterRead m _

theorem State.withFirmware_afterReadSource (src : Source) :
    (s.withFirmware m).afterReadSource src = (s.afterReadSource src).withFirmware m := by
  cases src with
  | opnd o => exact s.withFirmware_afterReadOpnd m o
  | imm n => rfl

theorem State.withFirmware_modifyOpnd (o : Opnd) (v : Byte) :
    ((s.withFirmware m).afterReadOpnd o).writeOpnd o v = ((s.afterReadOpnd o).writeOpnd o v).withFirmware m := by
  rw [State.withFirmware_afterReadOpnd, State.withFirmware_writeOpnd]

theorem State.withFirmware_callTo (a : Word) (n : Nat) :
    callTo a n (s.withFirmware m) = (callTo a n s).withFirmware m := by
  simp only [callTo, State.withFirmware_push16, State.withFirmware_regs]
  rfl

theorem State.withFirmware_jumpIf (cc : Cond) (a : Word) (j n : Nat) :
    jumpIf cc a j n (s.withFirmware m) = (jumpIf cc a j n s).withFirmware m := by
  rw [jumpIf_eq, jumpIf_eq]
  rfl

theorem State.withFirmware_callIf (cc : Cond) (a : Word) :
    callIf cc a (s.withFirmware m) = (callIf cc a s).withFirmware m := by
  unfold callIf
  rw [State.withFirmware_callTo, State.withFirmware_regs]
  split <;> rfl

theorem State.withFirmware_storeByte (ea : Word) (v : Byte) (n : Nat) :
    storeByte ea v n (s.withFirmware m) = (storeByte ea v n s).withFirmware m := by
  simp only [storeByte, State.withFirmware_memWrite]
  rfl

end

/-! The parts of a step before and after the instruction. -/

section
variable (s : State) (m : Memory) (c : Nat)

theorem State.withFirmware_hostTurn : (s.withFirmware m).hostTurn = s.hostTurn.withFirmware m := by
  have h : (s.withFirmware m).hostInputs = s.hostInputs := rfl
  unfold State.hostTurn
  rw [h]
  match s.hostInputs with
  | [] => rfl
  | none :: rest => rfl
  | some b :: rest =>
    unfold State.setButtons
    dsimp only [State.withFirmware]
    split <;> rfl

theorem State.withFirmware_selectSource :
    (s.withFirmware m).selectSource = (s.selectSource.1, s.selectSource.2.withFirmware m) := by
  unfold State.selectSource
  rw [State.withFirmware_pending]
  cases lowestSource s.pending <;> rfl

theorem State.withFirmware_interruptDispatch :
    (s.withFirmware m).interruptDispatch = s.interruptDispatch.withFirmware m := by
  have enter : (s.withFirmware m).enterInterrupt = s.enterInterrupt.withFirmware m := by
    have h : ({ s.withFirmware m with ime := false, halted := false } : State) =
        State.withFirmware { s with ime := false, halted := false } m := rfl
    unfold State.enterInterrupt
    rw [h]
    simp only [State.withFirmware_push16, State.withFirmware_selectSource, State.withFirmware_regs]
    rfl
  unfold State.interruptDispatch
  rw [State.withFirmware_ime, State.withFirmware_pending, enter]
  split <;> rfl

theorem State.withFirmware_beginStep : (s.withFirmware m).beginStep = s.beginStep.withFirmware m := by
  unfold State.beginStep
  rw [State.withFirmware_hostTurn]
  exact State.withFirmware_interruptDispatch { s.hostTurn with cycles := 0 } m

theorem State.withFirmware_dmaBytes (page : Byte) :
    ∀ n, State.dmaBytes page n (s.withFirmware m) = (State.dmaBytes page n s).withFirmware m
  | 0 => rfl
  | n + 1 => by
    simp only [State.dmaBytes, State.withFirmware_dmaBytes page n, State.dmaByte, State.withFirmware_busRead,
      State.withFirmware_afterRead]
    rfl

theorem State.withFirmware_dmaPhase : (s.withFirmware m).dmaPhase c = (s.dmaPhase c).withFirmware m := by
  unfold State.dmaPhase
  simp only [State.withFirmware_display, State.withFirmware_dmaBytes]
  split <;> rfl

theorem State.withFirmware_statRequest (b : Nat) : (s.withFirmware m).statRequest b = (s.statRequest b).withFirmware m := by
  unfold State.statRequest
  rw [State.withFirmware_display]
  split <;> rfl

theorem State.withFirmware_endHBlank : (s.withFirmware m).endHBlank = s.endHBlank.withFirmware m := by
  unfold State.endHBlank
  rw [show ((s.withFirmware m).consumeModeClock 204).setLY ((s.withFirmware m).display.ly + 1) =
    ((s.consumeModeClock 204).setLY (s.display.ly + 1)).withFirmware m from rfl]
  generalize (s.consumeModeClock 204).setLY (s.display.ly + 1) = u
  dsimp only
  rw [State.withFirmware_display]
  split
  · exact State.withFirmware_statRequest (((u.enterMode 1).raiseIRQ 0).emit .presentFrame) m 4
  · exact State.withFirmware_statRequest (u.enterMode 2) m 5

theorem State.withFirmware_endVBlankLine : (s.withFirmware m).endVBlankLine = s.endVBlankLine.withFirmware m := by
  unfold State.endVBlankLine
  rw [show ((s.withFirmware m).consumeModeClock 456).setLY ((s.withFirmware m).display.ly + 1) =
    ((s.consumeModeClock 456).setLY (s.display.ly + 1)).withFirmware m from rfl]
  generalize (s.consumeModeClock 456).setLY (s.display.ly + 1) = u
  dsimp only
  rw [State.withFirmware_display]
  split
  · exact State.withFirmware_statRequest ((u.setLY 0).enterMode 2) m 5
  · rfl

theorem State.withFirmware_endVramScan : (s.withFirmware m).endVramScan = s.endVramScan.withFirmware m :=
  State.withFirmware_statRequest (((s.consumeModeClock 172).emit (.renderLine s.display.ly)).enterMode 0) m 3

theorem State.withFirmware_modeEval : (s.withFirmware m).modeEval c = (s.modeEval c).withFirmware m := by
  unfold State.modeEval
  rw [show ({ s.withFirmware m with
      display := { (s.withFirmware m).display with modeClock := (s.withFirmware m).display.modeClock + c } } : State) =
    State.withFirmware { s with display := { s.display with modeClock := s.display.modeClock + c } } m from rfl]
  generalize ({ s with display := { s.display with modeClock := s.display.modeClock + c } } : State) = u
  dsimp only
  rw [State.withFirmware_display, u.withFirmware_endVramScan, u.withFirmware_endHBlank, u.withFirmware_endVBlankLine]
  split <;> split <;> rfl

theorem State.withFirmware_coincidence : (s.withFirmware m).coincidence = s.coincidence.withFirmware m := by
  unfold State.coincidence
  rw [State.withFirmware_display]
  split
  · exact State.withFirmware_statRequest { s with display := s.display.setCoincidence true } m 6
  · rfl

theorem State.withFirmware_displayUpdate : (s.withFirmware m).displayUpdate c = (s.displayUpdate c).withFirmware m := by
  have hg (u : State) : (u.withFirmware m).params.lcdDisableGatesFsm = u.params.lcdDisableGatesFsm := rfl
  unfold State.displayUpdate
  rw [State.withFirmware_dmaPhase]
  dsimp only
  rw [hg, State.withFirmware_display, State.withFirmware_modeEval, State.withFirmware_coincidence]
  split <;> rfl

theorem State.withFirmware_timaCounts :
    ∀ n s, State.timaCounts n (State.withFirmware s m) = (State.timaCounts n s).withFirmware m
  | 0, _ => rfl
  | n + 1, s => by
    have count : (s.withFirmware m).timaCount = s.timaCount.withFirmware m := by
      unfold State.timaCount
      rw [State.withFirmware_timer]
      split <;> rfl
    rw [State.timaCounts, count, State.withFirmware_timaCounts n, State.timaCounts]

theorem State.withFirmware_timerUpdate : (s.withFirmware m).timerUpdate c = (s.timerUpdate c).withFirmware m := by
  rw [State.timerUpdate, State.timerUpdate, show (s.withFirmware m).divUpdate c = (s.divUpdate c).withFirmware m from rfl,
    State.timaUpdate_eq, State.timaUpdate_eq, State.withFirmware_timer]
  split
  · exact State.withFirmware_timaCounts m _ ((s.divUpdate c).setTimaClock _)
  · rfl

theorem State.withFirmware_finishStep : (s.withFirmware m).finishStep = s.finishStep.withFirmware m := by
  unfold State.finishStep
  dsimp only
  rw [State.withFirmware_cycles, State.withFirmware_displayUpdate, State.withFirmware_timerUpdate]
  rfl

end

/-! With the overlay off: reads by the CPU, the fetch and every instruction. -/

section
variable {s : State} (h : s.bootActive = false) (m : Memory)
include h

theorem State.withFirmware_memRead (a : Word) : (s.withFirmware m).memRead a = s.memRead a := by
  unfold State.memRead
  rw [State.withFirmware_bootActive, h, State.withFirmware_busRead]
  simp

theorem State.withFirmware_pop16 : (s.withFirmware m).pop16 = (s.pop16.1, s.pop16.2.withFirmware m) := by
  unfold State.pop16
  simp only [State.withFirmware_regs, State.withFirmware_afterRead, State.withFirmware_memRead h,
    State.withFirmware_memRead (s := s.afterRead s.regs.sp) ((s.afterRead_bootActive _).trans h)]
  rfl

theorem State.withFirmware_loadByte (dst : R8) (ea : Word) (n : Nat) :
    loadByte dst ea n (s.withFirmware m) = (loadByte dst ea n s).withFirmware m := by
  simp only [loadByte, State.withFirmware_afterRead, State.withFirmware_memRead h]
  rfl

theorem State.withFirmware_readOpnd (o : Opnd) : (s.withFirmware m).readOpnd o = s.readOpnd o := by
  cases o with
  | reg r => rfl
  | atHL => exact State.withFirmware_memRead h m _

theorem State.withFirmware_readSource (src : Source) : (s.withFirmware m).readSource src = s.readSource src := by
  cases src with
  | opnd o => exact State.withFirmware_readOpnd h m o
  | imm n => rfl

theorem State.withFirmware_accumulate (op : AluOp) (src : Source) :
    accumulate op src (s.withFirmware m) = (accumulate op src s).withFirmware m := by
  simp only [accumulate, State.withFirmware_readSource h, State.withFirmware_afterReadSource, State.withFirmware_regs]
  rfl

theorem State.withFirmware_returnFromCall (n : Nat) :
    returnFromCall n (s.withFirmware m) = (returnFromCall n s).withFirmware m := by
  simp only [returnFromCall, State.withFirmware_pop16 h]
  rfl

theorem State.withFirmware_returnIf (cc : Cond) :
    returnIf cc (s.withFirmware m) = (returnIf cc s).withFirmware m := by
  unfold returnIf
  rw [State.withFirmware_returnFromCall h, State.withFirmware_regs]
  split <;> rfl

/-- Every instruction does on the machine with another image what it does here. -/
theorem exec_withFirmware (i : Instr) :
    ∃ t, exec i s = .next t ∧ exec i (s.withFirmware m) = .next (t.withFirmware m) := by
  cases i using instr_family_cases with
  | h_ldRegReg dst src => exact ⟨_, exec_ldRegReg dst src s, exec_ldRegReg dst src _⟩
  | h_ldImm o n =>
    refine ⟨_, exec_ldImm o n s, ?_⟩
    rw [exec_ldImm, ldOpndImm, State.withFirmware_writeOpnd]
    rfl
  | h_ldRegMem r =>
    exact ⟨_, exec_ldRegMem r s, by rw [exec_ldRegMem, State.withFirmware_regs, State.withFirmware_loadByte h]⟩
  | h_ldMemReg r =>
    exact ⟨_, exec_ldMemReg r s, by rw [exec_ldMemReg, State.withFirmware_regs, State.withFirmware_storeByte]⟩
  | h_ldPair p w => exact ⟨_, exec_ldPair p w s, exec_ldPair p w _⟩
  | h_push p =>
    refine ⟨_, exec_push p s, ?_⟩
    rw [exec_push, pushPair, State.withFirmware_push16]
    rfl
  | h_pop p =>
    refine ⟨_, exec_pop p s, ?_⟩
    rw [exec_pop, popPair, State.withFirmware_pop16 h]
    rfl
  | h_alu op o => exact ⟨_, exec_alu op o s, by rw [exec_alu, State.withFirmware_accumulate h]⟩
  | h_aluImm op n => exact ⟨_, exec_aluImm op n s, by rw [exec_aluImm, State.withFirmware_accumulate h]⟩
  | h_inc o =>
    refine ⟨_, exec_inc o s, ?_⟩
    simp only [exec_inc, incOpnd, State.withFirmware_readOpnd h, State.withFirmware_modifyOpnd, State.withFirmware_regs]
    rfl
  | h_dec o =>
    refine ⟨_, exec_dec o s, ?_⟩
    simp only [exec_dec, decOpnd, State.withFirmware_readOpnd h, State.withFirmware_modifyOpnd, State.withFirmware_regs]
    rfl
  | h_addHL p => exact ⟨_, exec_addHL p s, exec_addHL p _⟩
  | h_incPair p => exact ⟨_, exec_incPair p s, exec_incPair p _⟩
  | h_decPair p => exact ⟨_, exec_decPair p s, exec_decPair p _⟩
  | h_rot op o =>
    refine ⟨_, exec_rot op o s, ?_⟩
    simp only [exec_rot, rotateOpnd, State.withFirmware_readOpnd h, State.withFirmware_modifyOpnd, State.withFirmware_regs]
    rfl
  | h_bit b o =>
    refine ⟨_, exec_bit b o s, ?_⟩
    simp only [exec_bit, testBit, State.withFirmware_readOpnd h, State.withFirmware_afterReadOpnd, State.withFirmware_regs]
    rfl
  | h_res b o =>
    refine ⟨_, exec_res b o s, ?_⟩
    simp only [exec_res, resetBit, State.withFirmware_readOpnd h, State.withFirmware_modifyOpnd]
    rfl
  | h_set b o =>
    refine ⟨_, exec_set b o s, ?_⟩
    simp only [exec_set, setBit, State.withFirmware_readOpnd h, State.withFirmware_modifyOpnd]
    rfl
  | h_jrCond cc e => exact ⟨_, exec_jrCond cc e s, by rw [exec_jrCond, State.withFirmware_regs, State.withFirmware_jumpIf]⟩
  | h_jpCond cc w => exact ⟨_, exec_jpCond cc w s, by rw [exec_jpCond, State.withFirmware_jumpIf]⟩
  | h_callCond cc w => exact ⟨_, exec_callCond cc w s, by rw [exec_callCond, State.withFirmware_callIf]⟩
  | h_retCond cc => exact ⟨_, exec_retCond cc s, by rw [exec_retCond, State.withFirmware_returnIf h]⟩
  | h_rst y => exact ⟨_, exec_rst y s, by rw [exec_rst, State.withFirmware_callTo]⟩
  | h_illegal u => exact ⟨_, exec_illegal u s, exec_illegal u _⟩
  | h_ld_atN16_sp w =>
    refine ⟨_, rfl, congrArg Host.Outcome.next ?_⟩
    simp only [storeSP, State.withFirmware_memWrite, State.withFirmware_regs]
    rfl
  | h_ld_atBC_a | h_ld_atDE_a | h_ldh_atN8_a n | h_ldh_atC_a | h_ld_atN16_a w =>
    exact ⟨_, rfl, congrArg Host.Outcome.next (s.withFirmware_storeByte m _ _ _)⟩
  | h_ld_a_atBC | h_ld_a_atDE | h_ldh_a_atN8 n | h_ldh_a_atC | h_ld_a_atN16 w =>
    exact ⟨_, rfl, congrArg Host.Outcome.next (State.withFirmware_loadByte h m _ _ _)⟩
  | h_ld_atHLinc_a | h_ld_atHLdec_a =>
    exact ⟨_, rfl, congrArg (fun t : State => Host.Outcome.next (t.setHL _)) (s.withFirmware_storeByte m _ _ 8)⟩
  | h_ld_a_atHLinc | h_ld_a_atHLdec =>
    exact ⟨_, rfl, congrArg (fun t : State => Host.Outcome.next (t.setHL _)) (State.withFirmware_loadByte h m .a _ 8)⟩
  | h_call_n16 w => exact ⟨_, rfl, congrArg Host.Outcome.next (s.withFirmware_callTo m w 24)⟩
  | h_ret => exact ⟨_, rfl, congrArg Host.Outcome.next (State.withFirmware_returnFromCall h m 16)⟩
  | h_reti =>
    refine ⟨_, rfl, congrArg Host.Outcome.next ?_⟩
    simp only [State.returnFromInterrupt, State.withFirmware_pop16 h]
    rfl
  | h_nop | h_stop | h_halt | h_di | h_ei | h_rlca | h_rrca | h_rla | h_rra | h_daa | h_cpl | h_scf | h_ccf | h_jr_e8 e
  | h_jp_n16 w | h_jp_hl | h_add_sp_e8 e | h_ld_hl_spE8 e | h_ld_sp_hl => exact ⟨_, rfl, rfl⟩

theorem State.withFirmware_fetch8 : (s.withFirmware m).fetch8 = (s.fetch8.1, s.fetch8.2.withFirmware m) := by
  simp only [State.fetch8, State.withFirmware_regs, State.withFirmware_memRead h, State.withFirmware_afterRead]
  rfl

omit h in
/-- A fetch leaves the overlay as it is. -/
theorem State.fetch8_bootActive : s.fetch8.2.bootActive = s.bootActive := s.afterRead_bootActive _

theorem State.withFirmware_fetchInstr :
    (s.withFirmware m).fetchInstr = (s.fetchInstr.1, s.fetchInstr.2.withFirmware m) := by
  have h1 : s.fetch8.2.bootActive = false := State.fetch8_bootActive.trans h
  have h2 : s.fetch8.2.fetch8.2.bootActive = false := State.fetch8_bootActive.trans h1
  unfold State.fetchInstr
  dsimp only
  rw [State.withFirmware_fetch8 h]
  dsimp only
  rw [State.fetch16, State.fetch16, State.withFirmware_fetch8 h1]
  dsimp only
  rw [State.withFirmware_fetch8 h2]
  cases primary s.fetch8.1 <;> rfl

end

theorem State.beginStep_bootInactive {s : State} (h : s.bootActive = false) : s.beginStep.bootActive = false :=
  State.stepKeeps_bootInactive.beginStep h

theorem State.fetchInstr_bootActive (s : State) : s.fetchInstr.2.bootActive = s.bootActive := by
  obtain ⟨_, _, e⟩ := s.fetchInstr_eq
  rw [e]

/-- The body of a step answers the same next state, with the image carried along. -/
theorem stepBody_withFirmware {s : State} (h : s.bootActive = false) (m : Memory) :
    ∃ t, stepBody s = .next t ∧ stepBody (s.withFirmware m) = .next (t.withFirmware m) := by
  unfold stepBody
  rw [State.withFirmware_halted, State.withFirmware_fetchInstr h]
  cases s.halted with
  | true => exact ⟨_, rfl, congrArg Host.Outcome.next ((s.addCycles 4).withFirmware_finishStep m)⟩
  | false =>
    obtain ⟨u, hu, hu'⟩ := exec_withFirmware (s.fetchInstr_bootActive.trans h) m s.fetchInstr.1
    simp only [Bool.false_eq_true, if_false, hu, hu', State.withFirmware_fault, State.withFirmware_finishStep]
    split
    · exact ⟨_, rfl, rfl⟩
    · exact ⟨_, rfl, rfl⟩

/-- Settles O43: with the overlay off no part of a step reads the firmware, so each commutes with a change of the image
(`State.withFirmware_beginStep`, `stepBody_withFirmware`). -/
theorem firmwareUnreadable : Obligations.FirmwareUnreadable := by
  unfold Obligations.FirmwareUnreadable
  intro s m h
  unfold step
  rw [State.withFirmware_fault, State.withFirmware_beginStep]
  cases s.fault with
  | some r => rfl
  | none =>
    obtain ⟨t, ht, ht'⟩ := stepBody_withFirmware (State.beginStep_bootInactive h) m
    simp only [ht, ht']

end Sys2Proof.Machine
end

section
/-! Interrupt requests and their dispatch (rules R418, R436 to R442). -/

namespace Sys2Proof.Machine

/-! Requests. -/

/-- A request sets its own bit and keeps the others (rule R436). -/
theorem State.raiseIRQ_intFlag_bit (s : State) (k : Fin 5) (j : Nat) :
    (s.raiseIRQ k.val).intFlag.getLsbD j = if j = k.val then true else s.intFlag.getLsbD j :=
  getLsbD_or_bitMask s.intFlag (k.castLE (by decide)) j

/-- No bit of `new` is one that `old` has not. -/
theorem and_not_eq_zero_iff {n : Nat} (new old : BitVec n) :
    new &&& ~~~ old = 0 ↔ ∀ k, k < n → new.getLsbD k = true → old.getLsbD k = true := by
  constructor
  · intro h k hk hn
    have e := congrArg (BitVec.getLsbD · k) h
    simpa only [BitVec.getLsbD_and, BitVec.getLsbD_not, hk, hn, decide_true, Bool.true_and, BitVec.getLsbD_zero,
      BitVec.ofNat_eq_ofNat, Bool.not_eq_false'] using e
  · intro h
    apply BitVec.eq_of_getLsbD_eq
    intro k hk
    cases hn : new.getLsbD k with
    | false => simp only [BitVec.getLsbD_and, hn, Bool.false_and, BitVec.ofNat_eq_ofNat, BitVec.getLsbD_zero]
    | true =>
      simp only [BitVec.getLsbD_and, BitVec.getLsbD_not, hn, h k hk hn, Bool.not_true, Bool.and_false, BitVec.ofNat_eq_ofNat,
        BitVec.getLsbD_zero]

/-- No button of either group is newly pressed (rule R418). -/
theorem newPresses_eq_zero_iff (j : Joypad) (n : Buttons) :
    (n.dir &&& ~~~ j.dir) ||| (n.act &&& ~~~ j.act) = 0 ↔
      ∀ k, k < 4 → (n.dir.getLsbD k = true → j.dir.getLsbD k = true) ∧
        (n.act.getLsbD k = true → j.act.getLsbD k = true) := by
  refine BitVec.or_eq_zero_iff.trans ?_
  rw [← BitVec.ofNat_eq_ofNat, and_not_eq_zero_iff, and_not_eq_zero_iff]
  exact ⟨fun ⟨hd, ha⟩ k hk => ⟨hd k hk, ha k hk⟩, fun h => ⟨fun k hk => (h k hk).1, fun k hk => (h k hk).2⟩⟩

/-- Settles O36: the bits of IF by `State.raiseIRQ_intFlag_bit`; the report requests unless `newPresses_eq_zero_iff`. -/
theorem requests : Obligations.Requests := by
  unfold Obligations.Requests
  refine ⟨fun s k => ⟨?_, fun j _ hj => ?_, rfl⟩,
    fun s n => ⟨fun ⟨k, hk, h⟩ => if_pos fun h0 => ?_, fun h => if_neg (not_not.2 ((newPresses_eq_zero_iff _ n).2 h))⟩⟩
  · rw [State.raiseIRQ_intFlag_bit, if_pos rfl]
  · rw [State.raiseIRQ_intFlag_bit, if_neg hj]
  · obtain ⟨hd, ha⟩ := (newPresses_eq_zero_iff s.joypad n).1 h0 k hk
    obtain ⟨hnew, hold⟩ | ⟨hnew, hold⟩ := h
    · rw [hd hnew] at hold
      cases hold
    · rw [ha hnew] at hold
      cases hold

/-! The dispatch. -/

section
variable (s : State) (x : Word) (v : Byte)

theorem State.busWrite_intEnable_of_ne (h : x ≠ 0xFFFF) : (s.busWrite x v).intEnable = s.intEnable := by
  unfold State.busWrite
  cases hx : region x with
  | intEnable => exact absurd (region_intEnable_iff.1 hx) h
  | cartRam =>
    obtain ⟨m, c, e⟩ := s.writeCartRam_eq x v
    dsimp only
    rw [e]
  | bootLock =>
    dsimp only
    split <;> rfl
  | _ => rfl

theorem State.busWrite_intFlag_of_ne (h : x ≠ 0xFF0F) : (s.busWrite x v).intFlag = s.intFlag := by
  unfold State.busWrite
  cases hx : region x with
  | intFlag => exact absurd (region_intFlag_iff.1 hx) h
  | cartRam =>
    obtain ⟨m, c, e⟩ := s.writeCartRam_eq x v
    dsimp only
    rw [e]
  | bootLock =>
    dsimp only
    split <;> rfl
  | _ => rfl

end

/-- The selected source is pending, and no source of higher priority is (rule R440). -/
theorem lowestSource_some {b : Byte} {k : Fin 5} (h : lowestSource b = some k) :
    b.getLsbD k.val = true ∧ ∀ j, j < k.val → b.getLsbD j = false := by
  revert b k
  decide

/-- A byte of requests in which none is pending. -/
theorem lowestSource_none {b : Byte} (h : lowestSource (b &&& 0x1F) = none) : b &&& 0x1F = 0 := by
  revert b
  decide

theorem bitMask_eq_shiftLeft (k : Fin 5) : bitMask k.val = 1#8 <<< k.val := by
  revert k
  decide

/-- The low five bits of `IE & IF`, bit by bit. -/
theorem State.pending_bit (s : State) {k : Nat} (hk : k < 5) :
    s.pending.getLsbD k = (s.intEnable.getLsbD k && s.intFlag.getLsbD k) := by
  have low : ∀ k, k < 5 → (0x1F : Byte).getLsbD k = true := by decide
  rw [State.pending, BitVec.getLsbD_and, BitVec.getLsbD_and, low k hk, Bool.and_true]

/-- The two bus writes by which a dispatch pushes PC, its high byte first (rules R154, R440). -/
def State.pushPC (s : State) : State :=
  (s.busWrite (s.regs.sp - 1) (hiByte s.regs.pc)).busWrite (s.regs.sp - 2) (loByte s.regs.pc)

/-- With IME and `halted` cleared the push makes the same two writes. -/
theorem State.push16_eq_pushPC (s : State) :
    ({ s with ime := false, halted := false } : State).push16 s.regs.pc =
      { s.pushPC with regs := { s.regs with sp := s.regs.sp - 2 }, ime := false, halted := false } := by
  rw [State.push16_eq]
  dsimp only
  rw [State.busWrite_update s s.regs false false s.fault s.cycles s.totalCycles s.draws s.hostInputs,
    State.busWrite_update _ s.regs false false s.fault s.cycles s.totalCycles s.draws s.hostInputs]
  simp [State.pushPC]

/-- A push to other addresses than those of IE and IF leaves both alone. -/
theorem State.pushPC_requests (s : State) (h : ∀ x ∈ [s.regs.sp - 1, s.regs.sp - 2], x ≠ 0xFFFF ∧ x ≠ 0xFF0F) :
    s.pushPC.intEnable = s.intEnable ∧ s.pushPC.intFlag = s.intFlag := by
  obtain ⟨he1, hf1⟩ := h (s.regs.sp - 1) (by simp)
  obtain ⟨he2, hf2⟩ := h (s.regs.sp - 2) (by simp)
  unfold State.pushPC
  rw [State.busWrite_intEnable_of_ne _ _ _ he2, State.busWrite_intEnable_of_ne _ _ _ he1,
    State.busWrite_intFlag_of_ne _ _ _ hf2, State.busWrite_intFlag_of_ne _ _ _ hf1]
  exact ⟨rfl, rfl⟩

/-- The push reaches the two bytes below SP only. -/
theorem State.sameBytesBut_pushPC (s : State) : s.sameBytesBut s.pushPC [s.regs.sp - 1, s.regs.sp - 2] := by
  refine State.sameBytesBut_busWrite_busWrite s _ _ _ _ fun hr => ?_
  have h1 : s.regs.sp - 2 + 1 = s.regs.sp - 1 := by bv_omega
  exact region_rom_pred (by rw [h1]; exact hr)

/-- The CPU's own state and the draw counter are no bytes of the address space. -/
theorem State.sameBytes_cpuUpdate (s : State) (r : Regs) (ime halted : Bool) (cycles draws : Nat) :
    s.sameBytes { s with regs := r, ime := ime, halted := halted, cycles := cycles, draws := draws } :=
  State.sameBytes_trans
    (State.sameBytes_update s r ime halted s.bootActive s.fault cycles s.totalCycles s.events s.hostInputs)
    fun _ ha => State.busRead_draws _ draws ha

/-- The source taken is the least one pending, if one is; the draw counter moves only if none is (log entry 4). -/
theorem State.selectSource_cases (s : State) :
    ∃ k draws, s.selectSource = (k, { s with draws := draws }) ∧
      (s.pending ≠ 0 → draws = s.draws ∧ lowestSource s.pending = some k) := by
  unfold State.selectSource
  cases h : lowestSource s.pending with
  | some k => exact ⟨k, s.draws, rfl, fun _ => ⟨rfl, rfl⟩⟩
  | none => exact ⟨_, s.draws + 1, rfl, fun hp => absurd (lowestSource_none h) hp⟩

/-- A dispatch is the push and then an update of the CPU and IF (rules R440, R441). -/
theorem State.enterInterrupt_cases (s : State) :
    ∃ (k : Fin 5) (draws : Nat),
      s.enterInterrupt =
        { s.pushPC with
          regs := { s.regs with sp := s.regs.sp - 2, pc := BitVec.ofNat 16 (0x40 + 8 * k.val) }
          ime := false
          halted := false
          intFlag := s.pushPC.intFlag &&& ~~~ (1#8 <<< k.val)
          cycles := s.cycles + s.params.intDispatchCycles
          draws := draws } ∧
      (s.pushPC.pending ≠ 0 → draws = s.pushPC.draws ∧ lowestSource s.pushPC.pending = some k) := by
  obtain ⟨k, draws, hsel, hk⟩ := State.selectSource_cases
    { s.pushPC with regs := { s.regs with sp := s.regs.sp - 2 }, ime := false, halted := false }
  have hcycles : s.pushPC.cycles = s.cycles := by simp [State.pushPC]
  have hparams : s.pushPC.params = s.params := by simp [State.pushPC]
  refine ⟨k, draws, ?_, hk⟩
  unfold State.enterInterrupt
  rw [State.push16_eq_pushPC]
  dsimp only
  rw [hsel]
  simp only [State.takeSource, State.addCycles, State.setPC, bitMask_eq_shiftLeft, hcycles, hparams]

theorem State.interruptDispatch_of_idle {s : State} (h : s.ime = false ∨ s.pending = 0) : s.interruptDispatch = s := by
  refine if_neg fun ⟨hi, hp⟩ => ?_
  obtain h | h := h
  · rw [h] at hi
    cases hi
  · exact hp h

/-- Settles O37: the state by `State.enterInterrupt_cases`, the least source by `lowestSource_some`, and what the push leaves
alone by `State.pushPC_requests` and `State.sameBytesBut_pushPC`. -/
theorem interruptDispatch : Obligations.InterruptDispatch := by
  unfold Obligations.InterruptDispatch
  refine fun s => ⟨State.interruptDispatch_of_idle, fun hi hp => ?_⟩
  obtain ⟨k, draws, he, hk⟩ := s.enterInterrupt_cases
  have hd : s.interruptDispatch = s.enterInterrupt := if_pos ⟨hi, hp⟩
  rw [hd]
  refine ⟨k, draws, he, fun hp => ?_, s.pushPC_requests, ?_⟩
  · obtain ⟨hdraws, hsome⟩ := hk hp
    obtain ⟨hbit, hleast⟩ := lowestSource_some hsome
    rw [State.pending_bit _ k.isLt, Bool.and_eq_true] at hbit
    obtain ⟨hie, hif⟩ := hbit
    refine ⟨hdraws, hie, hif, fun j hj => ?_⟩
    rw [← hleast j hj, State.pending_bit _ (by omega)]
    rfl
  · rw [he]
    refine State.sameBytesBut_of_sameBytes s.sameBytesBut_pushPC ?_
    exact s.pushPC.sameBytes_cpuUpdate _ false false _ draws

end Sys2Proof.Machine
end
